-- ==== Sys2Proof/Word.lean ====
section
/-! DEFINITION. The word types of QRCORE (R7, R11): every register and field value is unsigned. -/

namespace Sys2Proof

/-- A host-bus word: 32 bits, bit 0 the least significant (R7, R11). -/
abbrev Word := BitVec 32

/-- One buffer element, field element, codeword or character code: 8 bits (R6). -/
abbrev Byte := BitVec 8

/-- A host byte address: 14 bits, 0x0000 to 0x3FFF (R7, R84). -/
abbrev Addr := BitVec 14

end Sys2Proof
end

