-- ==== Sys2Proof/Syntax.lean ====
section
/-! DEFINITION. The commands of QRCORE: one constructor per row of spec/opcode_table.json (R114). -/

namespace Sys2Proof

/-- A decoded QRCORE command (R114). Operands have exactly the width of their field of the command
word (R113), so an operand outside its range cannot be written (R113, U1). -/
inductive Instr where
  /-- `NOP` (R310). -/
  | nop
  /-- `GF_ADD x, y` (R150). -/
  | gfAdd (x y : Byte)
  /-- `GF_SUB x, y` (R151). -/
  | gfSub (x y : Byte)
  /-- `GF_MUL x, y` (R152). -/
  | gfMul (x y : Byte)
  /-- `GF_DIV x, y` (R153). -/
  | gfDiv (x y : Byte)
  /-- `GF_POW x, e` (R154); `e` is an unsigned integer, not a field element. -/
  | gfPow (x e : Byte)
  /-- `GF_INV x` (R155). -/
  | gfInv (x : Byte)
  /-- `GF_EXP i` (R156). -/
  | gfExp (i : Byte)
  /-- `GF_LOG x` (R157). -/
  | gfLog (x : Byte)
  /-- `RS_ENCODE` (R184). -/
  | rsEncode
  /-- `RS_SYNDROME` (R186). -/
  | rsSyndrome
  /-- `COMPOSE` (R219). -/
  | compose
  /-- `RENDER m` (R252). -/
  | render (m : BitVec 3)
  /-- `PENALTY` (R285). -/
  | penalty
  /-- `SELECT` (R312). -/
  | select
  /-- `ENCODE` (R314). -/
  | encode
  deriving DecidableEq, Repr

end Sys2Proof
end

