-- ==== Sys2Proof/WellFormed.lean ====
section
/-! DEFINITION. Well-formedness. A command as a host writes it is a mnemonic and a list of numbers
(R120); it is well-formed when it has the operands of its format (R112), each in its range. An
`Instr` is well-formed when its spelling is. -/

namespace Sys2Proof

/-- The sixteen mnemonics of R114. -/
inductive Mnemonic where
  | nop | gfAdd | gfSub | gfMul | gfDiv | gfPow | gfInv | gfExp | gfLog
  | rsEncode | rsSyndrome | compose | render | penalty | select | encode
  deriving DecidableEq, Repr

/-- The four formats of R112. -/
inductive Format where
  /-- No operand. -/
  | N
  /-- One 8-bit operand, field A. -/
  | A
  /-- Two 8-bit operands, fields A and B. -/
  | AB
  /-- A mask number 0 to 7 in field A. -/
  | M
  deriving DecidableEq, Repr

/-- The format of each mnemonic (R112, R114). -/
def Mnemonic.format : Mnemonic → Format
  | .nop | .rsEncode | .rsSyndrome | .compose | .penalty | .select | .encode => .N
  | .gfInv | .gfExp | .gfLog => .A
  | .gfAdd | .gfSub | .gfMul | .gfDiv | .gfPow => .AB
  | .render => .M

/-- A command as an assembler reads it: a mnemonic and its operands, each a number (R120). -/
structure AsmLine where
  mnemonic : Mnemonic
  operands : List Nat
  deriving DecidableEq, Repr

/-- "An assembler rejects operands out of range (0..255 for A and B, 0..7 for RENDER's mask)" (R120). -/
def AsmLine.wf (l : AsmLine) : Bool :=
  match l.mnemonic.format, l.operands with
  | .N, [] => true
  | .A, [x] => decide (x < 256)
  | .AB, [x, y] => decide (x < 256) && decide (y < 256)
  | .M, [m] => decide (m < 8)
  | _, _ => false

/-- How a command is written (R120). -/
def Instr.spelling : Instr → AsmLine
  | .nop => ⟨.nop, []⟩
  | .gfAdd x y => ⟨.gfAdd, [x.toNat, y.toNat]⟩
  | .gfSub x y => ⟨.gfSub, [x.toNat, y.toNat]⟩
  | .gfMul x y => ⟨.gfMul, [x.toNat, y.toNat]⟩
  | .gfDiv x y => ⟨.gfDiv, [x.toNat, y.toNat]⟩
  | .gfPow x e => ⟨.gfPow, [x.toNat, e.toNat]⟩
  | .gfInv x => ⟨.gfInv, [x.toNat]⟩
  | .gfExp i => ⟨.gfExp, [i.toNat]⟩
  | .gfLog x => ⟨.gfLog, [x.toNat]⟩
  | .rsEncode => ⟨.rsEncode, []⟩
  | .rsSyndrome => ⟨.rsSyndrome, []⟩
  | .compose => ⟨.compose, []⟩
  | .render m => ⟨.render, [m.toNat]⟩
  | .penalty => ⟨.penalty, []⟩
  | .select => ⟨.select, []⟩
  | .encode => ⟨.encode, []⟩

/-- An instruction is well-formed when its spelling is. -/
def Instr.wf (i : Instr) : Bool := i.spelling.wf

end Sys2Proof
end

