-- ==== Sys2Proof/Decode.lean ====
section
/-! DEFINITION. Command encoding: the fields of the command word (R111), the opcode table (R114),
the decoder (R116), the encoder and the assembler (R120), and the pseudo-commands (R121). -/

namespace Sys2Proof

/-! ### Fields (R111, R113) -/

/-- `OP`, bits 7:0 (R111). -/
def opField (w : Word) : Byte := w.extractLsb' 0 8

/-- `A`, bits 15:8: the first operand (R111). -/
def aField (w : Word) : Byte := w.extractLsb' 8 8

/-- `B`, bits 23:16: the second operand (R111). -/
def bField (w : Word) : Byte := w.extractLsb' 16 8

/-- `Z`, bits 31:24: reserved, must be 0 (R111). -/
def zField (w : Word) : Byte := w.extractLsb' 24 8

/-- The mask number of format M, bits 10:8 of the word: the low three bits of A (R113). -/
def maskOf (a : Byte) : BitVec 3 := a.extractLsb' 0 3

/-- Bits 15:11 of the word, which format M wants 0: the high five bits of A (R113). -/
def maskHigh (a : Byte) : BitVec 5 := a.extractLsb' 3 5

/-- A word from its three used fields: `w = (B << 16) | (A << 8) | OP` (R120), Z = 0. -/
def packWord (op a b : Byte) : Word := (b.setWidth 32 <<< 16) ||| (a.setWidth 32 <<< 8) ||| op.setWidth 32

/-! ### The opcode table (R114) -/

/-- The opcode of each mnemonic (R114). -/
def Mnemonic.opcode : Mnemonic → Byte
  | .nop => 0x00#8
  | .gfAdd => 0x01#8
  | .gfSub => 0x02#8
  | .gfMul => 0x03#8
  | .gfDiv => 0x04#8
  | .gfPow => 0x05#8
  | .gfInv => 0x06#8
  | .gfExp => 0x07#8
  | .gfLog => 0x08#8
  | .rsEncode => 0x10#8
  | .rsSyndrome => 0x11#8
  | .compose => 0x20#8
  | .render => 0x30#8
  | .penalty => 0x31#8
  | .select => 0x40#8
  | .encode => 0x41#8

/-- A row of R114's match and mask table: `w` selects the row when `(w AND mask) = pattern`. -/
structure OpcodeRow where
  mnemonic : Mnemonic
  pattern : Word
  mask : Word
  deriving DecidableEq, Repr

/-- R114's match and mask values, row by row. -/
def opcodeTable : List OpcodeRow := [
  ⟨.nop, 0x00000000#32, 0xFFFFFFFF#32⟩,
  ⟨.gfAdd, 0x00000001#32, 0xFF0000FF#32⟩,
  ⟨.gfSub, 0x00000002#32, 0xFF0000FF#32⟩,
  ⟨.gfMul, 0x00000003#32, 0xFF0000FF#32⟩,
  ⟨.gfDiv, 0x00000004#32, 0xFF0000FF#32⟩,
  ⟨.gfPow, 0x00000005#32, 0xFF0000FF#32⟩,
  ⟨.gfInv, 0x00000006#32, 0xFFFF00FF#32⟩,
  ⟨.gfExp, 0x00000007#32, 0xFFFF00FF#32⟩,
  ⟨.gfLog, 0x00000008#32, 0xFFFF00FF#32⟩,
  ⟨.rsEncode, 0x00000010#32, 0xFFFFFFFF#32⟩,
  ⟨.rsSyndrome, 0x00000011#32, 0xFFFFFFFF#32⟩,
  ⟨.compose, 0x00000020#32, 0xFFFFFFFF#32⟩,
  ⟨.render, 0x00000030#32, 0xFFFFF8FF#32⟩,
  ⟨.penalty, 0x00000031#32, 0xFFFFFFFF#32⟩,
  ⟨.select, 0x00000040#32, 0xFFFFFFFF#32⟩,
  ⟨.encode, 0x00000041#32, 0xFFFFFFFF#32⟩]

/-- "A word `w` selects the row when `(w AND mask) = match`" (R114). -/
def OpcodeRow.selects (r : OpcodeRow) (w : Word) : Bool := (w &&& r.mask) == r.pattern

/-! ### The decoder (R116) -/

/-- Why a word is illegal: the three reasons R115 lists. -/
inductive Illegal where
  /-- `Z ≠ 0`. -/
  | zNonzero
  /-- `OP` is unassigned. -/
  | unassigned
  /-- A field the format marks 0 is nonzero. -/
  | operandNonzero
  deriving DecidableEq, Repr

/-- A format-N command: legal when A and B are both 0 (R112). -/
def formatN (i : Instr) (a b : Byte) : Except Illegal Instr :=
  if a = 0#8 ∧ b = 0#8 then .ok i else .error .operandNonzero

/-- A format-A command: legal when B is 0 (R112). -/
def formatA (mk : Byte → Instr) (a b : Byte) : Except Illegal Instr :=
  if b = 0#8 then .ok (mk a) else .error .operandNonzero

/-- The format-M command: legal when A[7:3] and B are 0 (R112, R113). -/
def formatM (mk : BitVec 3 → Instr) (a b : Byte) : Except Illegal Instr :=
  if maskHigh a = 0#5 ∧ b = 0#8 then .ok (mk (maskOf a)) else .error .operandNonzero

/-- The decode of the fields OP, A and B, Z being 0 (R116). -/
def decodeFields (op a b : Byte) : Except Illegal Instr :=
  match op with
  | 0x00#8 => formatN .nop a b
  | 0x01#8 => .ok (.gfAdd a b)
  | 0x02#8 => .ok (.gfSub a b)
  | 0x03#8 => .ok (.gfMul a b)
  | 0x04#8 => .ok (.gfDiv a b)
  | 0x05#8 => .ok (.gfPow a b)
  | 0x06#8 => formatA .gfInv a b
  | 0x07#8 => formatA .gfExp a b
  | 0x08#8 => formatA .gfLog a b
  | 0x10#8 => formatN .rsEncode a b
  | 0x11#8 => formatN .rsSyndrome a b
  | 0x20#8 => formatN .compose a b
  | 0x30#8 => formatM .render a b
  | 0x31#8 => formatN .penalty a b
  | 0x40#8 => formatN .select a b
  | 0x41#8 => formatN .encode a b
  | _ => .error .unassigned

/-- "Decoding is a total function of the word alone" (R116). -/
def decode (w : Word) : Except Illegal Instr :=
  if zField w ≠ 0#8 then .error .zNonzero else decodeFields (opField w) (aField w) (bField w)

/-! ### The encoder and the assembler (R120) -/

/-- The command word of an instruction: absent operands are 0 (R112, R120). -/
def encode : Instr → Word
  | .nop => packWord 0x00#8 0#8 0#8
  | .gfAdd x y => packWord 0x01#8 x y
  | .gfSub x y => packWord 0x02#8 x y
  | .gfMul x y => packWord 0x03#8 x y
  | .gfDiv x y => packWord 0x04#8 x y
  | .gfPow x e => packWord 0x05#8 x e
  | .gfInv x => packWord 0x06#8 x 0#8
  | .gfExp i => packWord 0x07#8 i 0#8
  | .gfLog x => packWord 0x08#8 x 0#8
  | .rsEncode => packWord 0x10#8 0#8 0#8
  | .rsSyndrome => packWord 0x11#8 0#8 0#8
  | .compose => packWord 0x20#8 0#8 0#8
  | .render m => packWord 0x30#8 (m.setWidth 8) 0#8
  | .penalty => packWord 0x31#8 0#8 0#8
  | .select => packWord 0x40#8 0#8 0#8
  | .encode => packWord 0x41#8 0#8 0#8

/-- The assembler: "It encodes as `w = (B << 16) | (A << 8) | OP`, with A and B the operands in
order and absent operands 0"; it rejects an ill-formed line (R120). -/
def assemble (l : AsmLine) : Option Word :=
  if l.wf then
    some ((BitVec.ofNat 32 (l.operands.getD 1 0) <<< 16) ||| (BitVec.ofNat 32 (l.operands.getD 0 0) <<< 8)
      ||| l.mnemonic.opcode.setWidth 32)
  else none

/-! ### Pseudo-commands (R121) -/

/-- The pseudo-commands of R121: other spellings, none with an opcode of its own. -/
inductive Pseudo where
  /-- `GF_MOV x`. -/
  | gfMov (x : Byte)
  /-- `GF_NEG x`. -/
  | gfNeg (x : Byte)
  /-- `GF_SQR x`. -/
  | gfSqr (x : Byte)
  /-- `GF_ONE`. -/
  | gfOne
  /-- `GF_ALOG i`. -/
  | gfAlog (i : Byte)
  deriving DecidableEq, Repr

/-- The expansion of each pseudo-command (R121). -/
def Pseudo.expand : Pseudo → Instr
  | .gfMov x => .gfAdd x 0#8
  | .gfNeg x => .gfSub 0#8 x
  | .gfSqr x => .gfPow x 2#8
  | .gfOne => .gfExp 0#8
  | .gfAlog i => .gfExp i

/-! ### Words as spec/opcode_table.json numbers them -/

/-- The 32-bit command word with the given low bits; the bits from `nbits` up are 0. -/
def tableWord (nbits w : Nat) : Word := BitVec.ofNat 32 (w % 2 ^ nbits)

/-- The instruction the decoder reads from a word numbered as the opcode table numbers it (every
command is exactly one 32-bit word, R110). -/
def decodeTableWord (nbits w : Nat) : Option Instr :=
  match decode (tableWord nbits w) with
  | .ok i => some i
  | .error _ => none

end Sys2Proof
end

