-- ==== Sys2Proof/Config.lean ====
section
/-! DEFINITION. The identification word and the free values: the values the spec calls unspecified,
which no proof can see.

The spec's three model arguments (R8) are not constants here. They are plain data in State, so
that a statement about every state holds for every value of them: `RAM_INIT` is `State.ramInit`,
`CMD_LATENCY` is `State.latency`, and `BUS_WAIT` is the wait count of each host transfer. -/

namespace Sys2Proof.Config

/-- The value of the ID register, "QRC1" (R33). -/
def idWord : Word := 0x51524331#32

/-- FREE VALUE (log entry 5). The data of a host read that the spec leaves unspecified: a read,
except of ID, CTRL and STATUS, while BUSY = 1 (R391), and a transfer made during a hardware reset
(R380). It is applied to `State.fresh`, so each draw is a fresh value. No body: nothing is known of it. -/
opaque freeWord : Nat → Word

/-- FREE VALUE (log entry 5). The `bus_err` of a transfer made during a hardware reset, whose
response is unspecified (R380). -/
opaque freeBit : Nat → Bool

/-- FREE VALUE (log entry 6). The value a soft reset leaves in a CW_BUF element that the abandoned
command could write (R382). -/
opaque freeByte : Nat → Byte

end Sys2Proof.Config
end

