-- ==== Sys2Proof/Machine/State.lean ====
section
/-! DEFINITION. The state of QRCORE: every register, buffer and hidden latch the spec gives the
machine (R33 to R48, R51), and the model's own plain data for what lies outside it (host transfers,
latency, RAM contents, the counter of free values). -/

namespace Sys2Proof.Machine

open Sys2Proof

/-- The five module states of R46. The codes 1, 6 and 7 of R46's 3-bit element never occur (U17). -/
inductive ModuleState where
  | unset
  | dataWhite
  | dataBlack
  | reservedWhite
  | reservedBlack
  deriving DecidableEq, Repr

/-- The unit's hidden command state (R45). -/
inductive CmdState where
  | idle
  | pending
  deriving DecidableEq, Repr

/-- The error kinds of R341, without NONE. -/
inductive ErrKind where
  | illegalCommand
  | invalidCharacter
  | capacityExceeded
  | divisionByZero
  | inverseOfZero
  | logOfZero
  | powOfZero
  | notRendered
  deriving DecidableEq, Repr

/-- An error of a command with its information word: the argument of `raise E(info)` (R15). -/
structure CmdError where
  kind : ErrKind
  info : Word
  deriving DecidableEq, Repr

/-- One request on the host port: a read or a write of one word (R80, R81). -/
inductive Transfer where
  /-- `MemRead(addr, 4)`. -/
  | read (addr : Addr)
  /-- `MemWrite(addr, 4, data)`. -/
  | write (addr : Addr) (data : Word)
  deriving DecidableEq, Repr

/-- What the outside world does next at the ports of R80. -/
inductive HostEvent where
  /-- A cycle in which the host requests nothing. -/
  | idle
  /-- A transfer, and the wait cycles left before `bus_ready` = 1: `BUS_WAIT` (R8, R81). -/
  | transfer (wait : Nat) (t : Transfer)
  /-- A cycle with `rst_n` = 0, and the transfer the host makes in it, if any (R380). -/
  | hwReset (t : Option Transfer)
  deriving DecidableEq, Repr

/-- The host port's outputs in the cycle that completes a transfer (R80). `rdata` is none where the
transfer is a write and the spec states no read data for it (log entry 8). -/
structure BusResponse where
  rdata : Option Word
  err : Bool
  deriving DecidableEq, Repr

/-- The model argument `RAM_INIT`: TEXT_BUF and CW_BUF after a hardware reset (R8, R38, R40). -/
structure RamInit where
  text : Vector Byte 256
  cw : Vector Byte 26
  deriving DecidableEq, Repr

/-- The state of the machine. Each register is stored at the width of its defined fields; its
reserved bits read 0 and are not stored (R86). STATUS.BUSY is `cmdState = pending` (R45). -/
structure State where
  /-- CTRL.IRQ_EN, CTRL bit 1 (R34). CTRL.SRST reads 0 and is not stored. -/
  irqEn : Bool
  /-- STATUS.DONE, bit 1 (R36). -/
  done : Bool
  /-- STATUS.ERR, bit 2 (R36). -/
  err : Bool
  /-- STATUS.OVR, bit 3 (R36). -/
  ovr : Bool
  /-- STATUS.ERRCODE, bits 11:8 (R36). -/
  errCode : BitVec 4
  /-- ERRINFO (R37). -/
  errInfo : Word
  /-- TEXT_BUF[0..255] (R38). -/
  textBuf : Vector Byte 256
  /-- TEXT_LEN.LEN, bits 8:0 (R39). -/
  textLen : BitVec 9
  /-- CW_BUF[0..25] (R40). -/
  cwBuf : Vector Byte 26
  /-- RESULT[7:0]; RESULT[31:8] is always 0 (R42). -/
  result : Byte
  /-- MODE_INFO.MODE, bit 0: true = alphanumeric (R43). -/
  modeAlnum : Bool
  /-- MODE_INFO.VALID, bit 1 (R43). -/
  modeValid : Bool
  /-- MODE_INFO.DATA_BITS, bits 15:8 (R43). -/
  dataBits : BitVec 8
  /-- PEN_TOTAL (R44). -/
  penTotal : BitVec 16
  /-- PEN_RUN (R44). -/
  penRun : BitVec 16
  /-- PEN_BLOCK (R44). -/
  penBlock : BitVec 16
  /-- PEN_FINDER (R44). -/
  penFinder : BitVec 16
  /-- PEN_BALANCE (R44). -/
  penBalance : BitVec 16
  /-- BLACK_COUNT (R44). -/
  blackCount : BitVec 9
  /-- MASK_PEN[0..7] (R44). -/
  maskPen : Vector (BitVec 16) 8
  /-- SYND[0..6] (R44). -/
  synd : Vector Byte 7
  /-- MATRIX[0..440], row-major (R46). -/
  matrix : Vector ModuleState 441
  /-- BEST[0..440], row-major, true = black (R47). -/
  best : Vector Bool 441
  /-- BEST_INFO.BEST_MASK, bits 2:0 (R48). -/
  bestMask : BitVec 3
  /-- BEST_INFO.BEST_VALID, bit 8 (R48). -/
  bestValid : Bool
  /-- BEST_PENALTY[15:0] (R48). -/
  bestPenalty : BitVec 16
  /-- The hidden command state (R45). -/
  cmdState : CmdState
  /-- The hidden latch CUR_CMD: the word of the command in flight (R45). -/
  curCmd : Word
  /-- The host port's outputs in the last clock cycle: `some r` when a transfer completed in it
  (`bus_ready` = 1), none otherwise (R80). -/
  bus : Option BusResponse
  /-- MODEL'S OWN. What the host does in the coming cycles, oldest first (R9, R95). -/
  host : List HostEvent
  /-- MODEL'S OWN. The clock edges still to pass before the completion step of the command in
  flight (R392). -/
  delay : Nat
  /-- MODEL'S OWN. The model argument `CMD_LATENCY`: for each coming issue, its latency less one; an
  issue past the end of the list has latency 1 (R8, R392). -/
  latency : List Nat
  /-- MODEL'S OWN. The model argument `RAM_INIT` (R8). -/
  ramInit : RamInit
  /-- MODEL'S OWN. How many free values have been drawn. -/
  fresh : Nat
  deriving DecidableEq, Repr

/-- Why the machine stops. No constructor: QRCORE has no stop. A command that fails completes with
an error record and "There is no lock-up state" (R342); a bus error is a response (R340). Safe: with
no constructor, no step can end in a fault. -/
inductive Fault where
  deriving DecidableEq, Repr

/-- Why the model gives an instruction no meaning. -/
inductive Refusal where
  /-- Raised by an arm of `exec` whose instruction has no meaning yet; no arm of this model is such
  an arm. Safe: nothing is claimed of the instruction. -/
  | notModelled (mnemonic : String)
  deriving DecidableEq, Repr

/-- The state after a hardware reset, for given RAM contents (R51, R380). -/
def State.resetWith (ram : RamInit) : State where
  irqEn := false
  done := false
  err := false
  ovr := false
  errCode := 0#4
  errInfo := 0#32
  textBuf := ram.text
  textLen := 0#9
  cwBuf := ram.cw
  result := 0#8
  modeAlnum := false
  modeValid := false
  dataBits := 0#8
  penTotal := 0#16
  penRun := 0#16
  penBlock := 0#16
  penFinder := 0#16
  penBalance := 0#16
  blackCount := 0#9
  maskPen := Vector.replicate 8 0#16
  synd := Vector.replicate 7 0#8
  matrix := Vector.replicate 441 .unset
  best := Vector.replicate 441 false
  bestMask := 0#3
  bestValid := false
  bestPenalty := 0#16
  cmdState := .idle
  curCmd := 0#32
  bus := none
  host := []
  delay := 0
  latency := []
  ramInit := ram
  fresh := 0

/-- RAM contents of `State.reset`: every element 0. DESIGN CHOICE, unsafe (log entry 1): the spec
leaves `RAM_INIT` to the model. -/
def RamInit.zero : RamInit where
  text := Vector.replicate 256 0#8
  cw := Vector.replicate 26 0#8

/-- The machine right after a hardware reset (R51). -/
def State.reset : State := State.resetWith RamInit.zero

end Sys2Proof.Machine
end

