-- ==== Sys2Proof/Machine/Flags.lean ====
section
/-! DEFINITION. The status and control words: STATUS, its write-1-to-clear bits, CTRL, and the `irq`
output. STATUS holds QRCORE's only flags (R36); there is no carry, zero or overflow flag. -/

namespace Sys2Proof.Machine

open Sys2Proof

/-- Bit `k` of a word whose other bits are 0. -/
def bitAt (k : Nat) (b : Bool) : Word := (BitVec.ofBool b).setWidth 32 <<< k

/-- STATUS.BUSY: "`STATUS.BUSY = 1` exactly when `cmd_state = PENDING`" (R45). -/
def State.busy (s : State) : Bool := s.cmdState == .pending

/-- The STATUS word (R36). -/
def State.statusWord (s : State) : Word :=
  bitAt 0 s.busy ||| bitAt 1 s.done ||| bitAt 2 s.err ||| bitAt 3 s.ovr ||| (s.errCode.setWidth 32 <<< 8)

/-- The CTRL word: SRST reads 0 (R34). -/
def State.ctrlWord (s : State) : Word := bitAt 1 s.irqEn

/-- A host write of `d` to STATUS: DONE, ERR and OVR are each cleared where `d` has a 1 (R32, R36). -/
def State.clearStatus (s : State) (d : Word) : State :=
  { s with done := s.done && !d.getLsbD 1, err := s.err && !d.getLsbD 2, ovr := s.ovr && !d.getLsbD 3 }

/-- A host write of `d` to CTRL with SRST = 0: IRQ_EN takes bit 1 (R34). -/
def State.setIrqEn (s : State) (d : Word) : State := { s with irqEn := d.getLsbD 1 }

/-- The `irq` output: "`irq = STATUS.DONE AND CTRL.IRQ_EN`" (R350). -/
def State.irq (s : State) : Bool := s.done && s.irqEn

/-- The code of each error kind (R341). -/
def ErrKind.code : ErrKind → BitVec 4
  | .illegalCommand => 1#4
  | .invalidCharacter => 2#4
  | .capacityExceeded => 3#4
  | .divisionByZero => 4#4
  | .inverseOfZero => 5#4
  | .logOfZero => 6#4
  | .powOfZero => 7#4
  | .notRendered => 8#4

end Sys2Proof.Machine
end

