-- ==== Sys2Proof/Machine/Ops.lean ====
section
/-! DEFINITION. The shared operations on the state: issue (R117), completion (R118), raising an error
(R344), hardware reset (R380) and soft reset (R381, R382). -/

namespace Sys2Proof.Machine

open Sys2Proof

/-- The outcome of one instruction or step of QRCORE. -/
abbrev Outcome := Host.Outcome State Fault Refusal

/-- The vector of `f 0, f 1, …, f (n-1)`. -/
def tabulate {α : Type} {n : Nat} (f : Fin n → α) : Vector α n := ⟨⟨List.ofFn f⟩, by simp⟩

@[simp] theorem getElem_tabulate {α : Type} {n : Nat} (f : Fin n → α) (i : Nat) (h : i < n) :
    (tabulate f)[i] = f ⟨i, h⟩ := by simp [tabulate]

/-- The vector of `f 0, f 1, …, f (n-1)`, for a function of a plain number. -/
def fill {α : Type} (n : Nat) (f : Nat → α) : Vector α n := ⟨⟨(List.range n).map f⟩, by simp⟩

@[simp] theorem getElem_fill {α : Type} (n : Nat) (f : Nat → α) (i : Nat) (h : i < n) :
    (fill n f)[i] = f i := by simp [fill]

/-- The vector of `f x` for the elements `x` of `v`. -/
def mapVec {α β : Type} {n : Nat} (f : α → β) (v : Vector α n) : Vector β n := ⟨⟨v.toList.map f⟩, by simp⟩

@[simp] theorem getElem_mapVec {α β : Type} {n : Nat} (f : α → β) (v : Vector α n) (i : Nat) (h : i < n) :
    (mapVec f v)[i] = f v[i] := by simp [mapVec]

/-! ### Completion -/

/-- Completion without an error: "STATUS.DONE <- 1, cmd_state <- IDLE" (R118). -/
def completeOk (s : State) : State := { s with done := true, cmdState := .idle }

/-- Completion with an error: taking the exception of QRCORE (R344, R345). ERR, ERRCODE, ERRINFO and
DONE record it, the unit becomes idle, and nothing else changes. The record is cleared, QRCORE's only
"return" (R346), by `State.clearStatus`, `latchCommand`, `hardReset` and `softReset`. -/
def raiseError (e : CmdError) (s : State) : State :=
  { s with err := true, errCode := e.kind.code, errInfo := e.info, done := true, cmdState := .idle }

/-- The completion step's use of `perform`'s result (R118): on `ok s'` the command's writes are in
`s'` and the command completes; on an error none of them is made (R15). -/
def finish (s : State) (r : Except CmdError State) : Outcome :=
  match r with
  | .ok s' => .next (completeOk s')
  | .error e => .next (raiseError e s)

/-! ### Issue -/

/-- The effect of an issue on the spec's state (R117). OVR is unchanged. -/
def latchCommand (w : Word) (s : State) : State :=
  { s with curCmd := w, cmdState := .pending, done := false, err := false, errCode := 0#4, errInfo := 0#32 }

/-- Issue: the command is latched and its latency drawn from the argument `CMD_LATENCY` (R117, R392). -/
def issue (w : Word) (s : State) : State :=
  { latchCommand w s with delay := s.latency.headD 0, latency := s.latency.tail }

/-- An edge with `rst_n` = 0 (R380). -/
def HostEvent.isReset : HostEvent → Bool
  | .hwReset _ => true
  | .idle | .transfer _ _ => false

/-- `rst_n` = 0 at the coming edge (R380). -/
def State.inReset (s : State) : Bool :=
  match s.host with
  | [] => false
  | e :: _ => e.isReset

/-- The command `w` in flight with its completion step due at once: its latency has passed, and the host
does not hold the unit in reset at the coming edge. -/
def loadCommand (w : Word) (s : State) : State :=
  { latchCommand w s with delay := 0, host := s.host.dropWhile HostEvent.isReset }

/-! ### Reset -/

/-- Hardware reset (R380): the state of R51, with `RAM_INIT` in the buffers. What lies outside the
machine (the model's own fields) goes on. -/
def hardReset (s : State) : State :=
  { State.resetWith s.ramInit with host := s.host, latency := s.latency, fresh := s.fresh }

/-- Whether the command could write CW_BUF element `k`: R382's table. -/
def couldWriteCw (i : Instr) (k : Nat) : Bool :=
  match i with
  | .compose => decide (k < 19)
  | .rsEncode => decide (19 ≤ k)
  | .encode => true
  | .nop | .gfAdd _ _ | .gfSub _ _ | .gfMul _ _ | .gfDiv _ _ | .gfPow _ _ | .gfInv _ | .gfExp _ | .gfLog _
  | .rsSyndrome | .render _ | .penalty | .select => false

/-- Whether the command in flight, given by its word, could write CW_BUF element `k`. An illegal
word writes nothing (R115). -/
def wordCouldWriteCw (w : Word) (k : Nat) : Bool :=
  match decode w with
  | .ok i => couldWriteCw i k
  | .error _ => false

/-- CW_BUF after the command in flight is abandoned: "Every CW_BUF element the abandoned command
could write becomes an unspecified value" (R382), a free value. -/
def abandonedCw (s : State) : Vector Byte 26 :=
  tabulate fun k => if wordCouldWriteCw s.curCmd k then Config.freeByte (s.fresh + k) else s.cwBuf[k]

/-- The command in flight is abandoned (R382). -/
def abandon (s : State) : State := { s with cwBuf := abandonedCw s, fresh := s.fresh + 26 }

/-- The reset of every piece of state but TEXT_BUF and CW_BUF (R381). -/
def resetKeepingBuffers (s : State) : State :=
  { hardReset s with textBuf := s.textBuf, cwBuf := s.cwBuf }

/-- Soft reset (R381), with a command in flight first abandoned (R382). -/
def softReset (s : State) : State :=
  resetKeepingBuffers (if s.busy then abandon s else s)

end Sys2Proof.Machine
end

