-- ==== Sys2Proof/Machine/Operands.lean ====
section
/-! DEFINITION. What the commands read: bit strings (R12), the input characters (R210), the bit stream
of the codewords (R41), and the colour grid of a matrix with its 42 lines (R280). The operand fields
of the command word (R113) are in Sys2Proof/Decode.lean. -/

namespace Sys2Proof.Machine

open Sys2Proof

/-! ### Bit strings (R12) -/

/-- `bin_w(v)`: "the w-bit string of the unsigned integer v, most significant bit first" (R12). -/
def bin (w v : Nat) : List Bool := (List.range w).map fun k => v.testBit (w - 1 - k)

/-- The unsigned value of a bit string, first bit the most significant. -/
def bitsValue (bs : List Bool) : Nat := bs.foldl (fun v b => 2 * v + b.toNat) 0

/-- The byte of bits `8b .. 8b+7` of a bit string, "first bit as the byte's bit 7" (R12, R220). -/
def byteOfBits (bs : List Bool) (b : Nat) : Byte := BitVec.ofNat 8 (bitsValue ((bs.drop (8 * b)).take 8))

/-! ### Command inputs -/

/-- `n = TEXT_LEN.LEN` (R210). -/
def State.textCount (s : State) : Nat := s.textLen.toNat

/-- `T[0..n-1]`, the first `n` elements of TEXT_BUF (R210). -/
def State.text (s : State) : List Byte := s.textBuf.toList.take s.textCount

/-- `BITS`: the 208-bit string of the 26 codewords, each most significant bit first (R41). -/
def codewordBits (cw : Vector Byte 26) : List Bool := cw.toList.flatMap fun b => bin 8 b.toNat

/-- Bit `k` of `BITS`: bit `7 - k mod 8` of codeword `k div 8`, so "BITS[0] is bit 7 of CW_BUF[0]" (R251). -/
def streamBit (cw : Vector Byte 26) (k : Nat) : Bool := (cw.toList.getD (k / 8) 0#8).getMsbD (k % 8)

/-! ### Modules and colours -/

/-- The code of a module state (R46). -/
def ModuleState.code : ModuleState → BitVec 3
  | .unset => 0#3
  | .dataWhite => 2#3
  | .dataBlack => 3#3
  | .reservedWhite => 4#3
  | .reservedBlack => 5#3

/-- The colour of a module, bit 0 of its code: black = true (R18, R46). -/
def ModuleState.colour (m : ModuleState) : Bool := m.code.getLsbD 0

/-- Bit 2 of a module's code: reserved (R46). -/
def ModuleState.reserved (m : ModuleState) : Bool := m.code.getLsbD 2

/-- A reserved module of a colour (R46). -/
def reservedModule (black : Bool) : ModuleState := if black then .reservedBlack else .reservedWhite

/-- A data module of a colour (R46). -/
def dataModule (black : Bool) : ModuleState := if black then .dataBlack else .dataWhite

/-- The colour grid of a matrix, row-major: `K[r][c] = MATRIX[21r+c][0]` (R280). -/
def colourGrid (m : Vector ModuleState 441) : Vector Bool 441 := mapVec ModuleState.colour m

/-- The first `n` rows of `w` colours of a row-major list. -/
def rowsOf (w : Nat) : Nat → List Bool → List (List Bool)
  | 0, _ => []
  | n + 1, ks => ks.take w :: rowsOf w n (ks.drop w)

/-- The 21 rows of a grid: `K[r][0..20]` (R280). -/
def gridRows (k : Vector Bool 441) : List (List Bool) := rowsOf 21 21 k.toList

/-- The 21 columns of a grid given by its rows: `K[0..20][c]` (R280). -/
def columnsOf (rows : List (List Bool)) : List (List Bool) :=
  (List.range 21).map fun c => rows.map fun row => row.getD c false

/-- The 42 lines of a grid given by its rows: the rows, then the columns (R280). -/
def linesOf (rows : List (List Bool)) : List (List Bool) := rows ++ columnsOf rows

end Sys2Proof.Machine
end

