-- ==== Sys2Proof/Machine/Gf.lean ====
section
/-! DEFINITION. The GF(256) unit: the EXP and LOG tables (R140 to R143) and the eight GF commands
(R150 to R157). -/

namespace Sys2Proof.Machine

open Sys2Proof

/-! ### The tables -/

/-- One doubling with reduction: `v <- v << 1` in 9 bits; "if v[8] = 1 then v <- v ⊕ 0x11D" (R141). -/
def alphaStep (v : Byte) : Byte :=
  let d : BitVec 9 := v.setWidth 9 <<< 1
  (if d.getLsbD 8 then d ^^^ 0x11D#9 else d).setWidth 8

/-- `n` entries of the doubling sequence from `v`. -/
def doublings : Nat → Byte → List Byte
  | 0, _ => []
  | n + 1, v => v :: doublings n (alphaStep v)

theorem length_doublings (n : Nat) (v : Byte) : (doublings n v).length = n := by
  induction n generalizing v with
  | zero => rfl
  | succ n ih => simp [doublings, ih]

/-- The exponent table `EXP[0..255]` (R141). -/
def expTable : Vector Byte 256 := ⟨⟨doublings 256 1#8⟩, length_doublings 256 1#8⟩

/-- `EXP[i]` (R141). -/
def expAt (i : Nat) (h : i < 256 := by omega) : Byte := expTable[i]

/-- `EXP[k mod 255]`. -/
def expMod (k : Nat) : Byte := expAt (k % 255)

/-- `LOG[x]`: the `i` in 0..254 with `EXP[i] = x` (R142). It is none exactly at `x = 0`: "A model must
not give LOG[0] a value" (R143). -/
def logOf (x : Byte) : Option Nat := (expTable.toList.take 255).findIdx? (· == x)

/-! ### The field operations -/

/-- Field addition, and subtraction: bitwise exclusive-or (R140, R150, R151). -/
def gfAdd (x y : Byte) : Byte := x ^^^ y

/-- Field multiplication (R152): 0 when an operand is 0, which is when it has no LOG. -/
def gfMul (x y : Byte) : Byte :=
  match logOf x, logOf y with
  | some a, some b => expMod (a + b)
  | _, _ => 0#8

/-- Field division (R153): none, DIVISION_BY_ZERO, when `y = 0`, "checked first, even when x = 0". -/
def gfDiv (x y : Byte) : Option Byte :=
  match logOf y with
  | none => none
  | some b =>
    match logOf x with
    | none => some 0#8
    | some a => some (expMod (a + 255 - b))

/-- Field power (R154): none, POW_OF_ZERO, when `x = 0`. -/
def gfPow (x e : Byte) : Option Byte := (logOf x).map fun a => expMod (a * e.toNat)

/-- Multiplicative inverse (R155): none, INVERSE_OF_ZERO, when `x = 0`. The index `255 - LOG[x]` is
1..255, and `x = 1` reads EXP[255]. -/
def gfInv (x : Byte) : Option Byte := (logOf x).map fun a => expAt (255 - a)

/-- Logarithm lookup (R157): none, LOG_OF_ZERO, when `x = 0`. -/
def gfLog (x : Byte) : Option Byte := (logOf x).map (BitVec.ofNat 8)

/-! ### The commands -/

/-- A GF command's write: `RESULT[7:0] <- r`, RESULT[31:8] stays 0 (R42). -/
def setResult (r : Byte) (s : State) : State := { s with result := r }

/-- `perform` of a GF command with result `r`, or its error with ERRINFO "the command word" (R341). -/
def performGf (e : ErrKind) (r : Option Byte) (s : State) : Except CmdError State :=
  match r with
  | some v => .ok (setResult v s)
  | none => .error ⟨e, s.curCmd⟩

/-- `GF_ADD x, y` (R150). -/
def execGfAdd (x y : Byte) (s : State) : Outcome := finish s (.ok (setResult (gfAdd x y) s))

/-- `GF_SUB x, y`: "field subtraction, identical to GF_ADD" (R151). -/
def execGfSub (x y : Byte) (s : State) : Outcome := finish s (.ok (setResult (gfAdd x y) s))

/-- `GF_MUL x, y` (R152). -/
def execGfMul (x y : Byte) (s : State) : Outcome := finish s (.ok (setResult (gfMul x y) s))

/-- `GF_DIV x, y` (R153). -/
def execGfDiv (x y : Byte) (s : State) : Outcome := finish s (performGf .divisionByZero (gfDiv x y) s)

/-- `GF_POW x, e` (R154). -/
def execGfPow (x e : Byte) (s : State) : Outcome := finish s (performGf .powOfZero (gfPow x e) s)

/-- `GF_INV x` (R155). -/
def execGfInv (x : Byte) (s : State) : Outcome := finish s (performGf .inverseOfZero (gfInv x) s)

/-- `GF_EXP i` (R156). -/
def execGfExp (i : Byte) (s : State) : Outcome := finish s (.ok (setResult (expAt i.toNat i.isLt) s))

/-- `GF_LOG x` (R157). -/
def execGfLog (x : Byte) (s : State) : Outcome := finish s (performGf .logOfZero (gfLog x) s)

end Sys2Proof.Machine
end

