-- ==== Sys2Proof/Machine/ReedSolomon.lean ====
section
/-! DEFINITION. The Reed–Solomon encoder: polynomials (R180), the generator (R181, R182), long
division (R183), RS_ENCODE (R184) and RS_SYNDROME (R186). -/

namespace Sys2Proof.Machine

open Sys2Proof

/-- XOR of `c × q` into `p`, aligned at position `k`; `p` keeps its length. -/
def xorScaled (p : List Byte) (k : Nat) (q : List Byte) (c : Byte) : List Byte :=
  match k, p, q with
  | _, [], _ => []
  | 0, p, [] => p
  | 0, a :: p, b :: q => gfAdd a (gfMul b c) :: xorScaled p 0 q c
  | k + 1, a :: p, q => a :: xorScaled p k q c

/-- The product of two polynomials: the convolution, most significant term first (R180). -/
def polyMul (p q : List Byte) : List Byte :=
  (List.range p.length).foldl (fun r i => xorScaled r i q (p.getD i 0#8))
    (List.replicate (p.length + q.length - 1) 0#8)

/-- `generatorPolynomial(n)`: the product of the factors `[1, EXP[i]]`, i < n (R181). -/
def generatorPolynomial (n : Nat) : List Byte :=
  (List.range n).foldl (fun g i => polyMul g [1#8, expMod i]) [1#8]

/-- The generator-polynomial ROM `GEN[0..7]` (R182). -/
def genRom : Vector Byte 8 := #v[1#8, 127#8, 122#8, 154#8, 164#8, 11#8, 68#8, 117#8]

/-- `polyDivide(dividend, divisor)`: the remainder by in-place long division (R183). -/
def polyDivide (d g : List Byte) : List Byte :=
  let steps := d.length + 1 - g.length
  ((List.range steps).foldl
    (fun buf i => if buf.getD i 0#8 = 0#8 then buf else xorScaled buf i g (buf.getD i 0#8)) d).drop steps

/-- The data codewords CW_BUF[0..18]. -/
def dataCodewords (cw : Vector Byte 26) : List Byte := cw.toList.take 19

/-- The seven EC codewords of a message: "the message followed by `polyDivide(message ++ 0⁷, GEN)`" (R184). -/
def ecCodewords (msg : List Byte) : List Byte := polyDivide (msg ++ List.replicate 7 0#8) genRom.toList

/-- CW_BUF with CW_BUF[19..25] replaced by the EC codewords of CW_BUF[0..18] (R184). -/
def withEc (cw : Vector Byte 26) : Vector Byte 26 :=
  let ec := ecCodewords (dataCodewords cw)
  tabulate fun k => if k.val < 19 then cw[k] else ec.getD (k.val - 19) 0#8

/-- Syndrome `j`: the 26-codeword polynomial at `α^j`, by Horner's rule (R186). -/
def syndrome (cw : Vector Byte 26) (j : Nat) : Byte :=
  cw.toList.foldl (fun s c => gfAdd (gfMul s (expMod j)) c) 0#8

/-- `perform` of RS_ENCODE; it cannot fail (R184). -/
def performRsEncode (s : State) : State := { s with cwBuf := withEc s.cwBuf }

/-- `perform` of RS_SYNDROME; it cannot fail (R186). -/
def performRsSyndrome (s : State) : State := { s with synd := tabulate fun j => syndrome s.cwBuf j }

/-- `RS_ENCODE` (R184). -/
def execRsEncode (s : State) : Outcome := finish s (.ok (performRsEncode s))

/-- `RS_SYNDROME` (R186). -/
def execRsSyndrome (s : State) : Outcome := finish s (.ok (performRsSyndrome s))

end Sys2Proof.Machine
end

