-- ==== Sys2Proof/Machine/Bus.lean ====
section
/-! DEFINITION. The host port: the address map (R84), reads and writes of each register (R32 to R48,
R86), access while a command is in flight (R390, R391), and one clock edge of the host's side. -/

namespace Sys2Proof.Machine

open Sys2Proof

/-! ### The address map (R84) -/

/-- A register, or an element of a window, of the address map (R84). -/
inductive Target where
  | id
  | ctrl
  | status
  | cmd
  | result
  | errInfo
  | textLen
  | modeInfo
  | penTotal
  | penRun
  | penBlock
  | penFinder
  | penBalance
  | blackCount
  | bestInfo
  | bestPenalty
  | maskPen (m : Fin 8)
  | synd (j : Fin 7)
  | genRom (k : Fin 8)
  | cwBuf (i : Fin 26)
  | textBuf (i : Fin 256)
  | matrix (q : Fin 441)
  | best (q : Fin 441)
  deriving DecidableEq, Repr

/-- Why a transfer's address is an error (R82, R85). -/
inductive AddrError where
  | misaligned
  | unmapped
  deriving DecidableEq, Repr

/-- The single registers and their offsets (R84). -/
def singleRegisters : List (Nat × Target) := [
  (0x0000, .id), (0x0004, .ctrl), (0x0008, .status), (0x000C, .cmd), (0x0010, .result),
  (0x0014, .errInfo), (0x0018, .textLen), (0x001C, .modeInfo), (0x0020, .penTotal), (0x0024, .penRun),
  (0x0028, .penBlock), (0x002C, .penFinder), (0x0030, .penBalance), (0x0034, .blackCount),
  (0x0038, .bestInfo), (0x003C, .bestPenalty)]

/-- The element of a window of `n` words at `base` that an aligned address names, if it is in it. -/
def inWindow (base n a : Nat) : Option (Fin n) :=
  if h : base ≤ a ∧ (a - base) / 4 < n then some ⟨(a - base) / 4, h.2⟩ else none

/-- The target of an aligned address (R84). -/
def mapLookup (a : Nat) : Option Target :=
  (singleRegisters.lookup a).or <|
  ((inWindow 0x0040 8 a).map .maskPen).or <|
  ((inWindow 0x0060 7 a).map .synd).or <|
  ((inWindow 0x0080 8 a).map .genRom).or <|
  ((inWindow 0x0100 26 a).map .cwBuf).or <|
  ((inWindow 0x0400 256 a).map .textBuf).or <|
  ((inWindow 0x1000 441 a).map .matrix).or <|
  ((inWindow 0x2000 441 a).map .best)

/-- The target of a host address: misaligned when `bus_addr[1:0] ≠ 0` (R82), unmapped when no row of
R84 holds it (R85). -/
def decodeAddr (a : Addr) : Except AddrError Target :=
  if a.toNat % 4 ≠ 0 then .error .misaligned
  else
    match mapLookup a.toNat with
    | some t => .ok t
    | none => .error .unmapped

/-- The address of each target (R84). -/
def Target.addr : Target → Addr
  | .id => 0x0000#14
  | .ctrl => 0x0004#14
  | .status => 0x0008#14
  | .cmd => 0x000C#14
  | .result => 0x0010#14
  | .errInfo => 0x0014#14
  | .textLen => 0x0018#14
  | .modeInfo => 0x001C#14
  | .penTotal => 0x0020#14
  | .penRun => 0x0024#14
  | .penBlock => 0x0028#14
  | .penFinder => 0x002C#14
  | .penBalance => 0x0030#14
  | .blackCount => 0x0034#14
  | .bestInfo => 0x0038#14
  | .bestPenalty => 0x003C#14
  | .maskPen m => BitVec.ofNat 14 (0x0040 + 4 * m.val)
  | .synd j => BitVec.ofNat 14 (0x0060 + 4 * j.val)
  | .genRom k => BitVec.ofNat 14 (0x0080 + 4 * k.val)
  | .cwBuf i => BitVec.ofNat 14 (0x0100 + 4 * i.val)
  | .textBuf i => BitVec.ofNat 14 (0x0400 + 4 * i.val)
  | .matrix q => BitVec.ofNat 14 (0x1000 + 4 * q.val)
  | .best q => BitVec.ofNat 14 (0x2000 + 4 * q.val)

/-! ### Reads -/

/-- The word a register or element holds, its reserved bits 0 (R33 to R48, R86). -/
def peek (s : State) : Target → Word
  | .id => Config.idWord
  | .ctrl => s.ctrlWord
  | .status => s.statusWord
  | .cmd => 0#32
  | .result => s.result.setWidth 32
  | .errInfo => s.errInfo
  | .textLen => s.textLen.setWidth 32
  | .modeInfo => bitAt 0 s.modeAlnum ||| bitAt 1 s.modeValid ||| (s.dataBits.setWidth 32 <<< 8)
  | .penTotal => s.penTotal.setWidth 32
  | .penRun => s.penRun.setWidth 32
  | .penBlock => s.penBlock.setWidth 32
  | .penFinder => s.penFinder.setWidth 32
  | .penBalance => s.penBalance.setWidth 32
  | .blackCount => s.blackCount.setWidth 32
  | .bestInfo => s.bestMask.setWidth 32 ||| bitAt 8 s.bestValid
  | .bestPenalty => s.bestPenalty.setWidth 32
  | .maskPen m => s.maskPen[m].setWidth 32
  | .synd j => s.synd[j].setWidth 32
  | .genRom k => genRom[k].setWidth 32
  | .cwBuf i => s.cwBuf[i].setWidth 32
  | .textBuf i => s.textBuf[i].setWidth 32
  | .matrix q => s.matrix[q].code.setWidth 32
  | .best q => bitAt 0 s.best[q]

/-- "a host read of ID, CTRL or STATUS returns its defined value" while BUSY = 1 (R391). -/
def Target.definedWhileBusy : Target → Bool
  | .id | .ctrl | .status => true
  | .cmd | .result | .errInfo | .textLen | .modeInfo | .penTotal | .penRun | .penBlock | .penFinder
  | .penBalance | .blackCount | .bestInfo | .bestPenalty | .maskPen _ | .synd _ | .genRom _ | .cwBuf _
  | .textBuf _ | .matrix _ | .best _ => false

/-- A transfer completes with this response (R80). -/
def respond (r : BusResponse) (s : State) : State := { s with bus := some r }

/-- A host read of `a` (R82, R85, R86, R391). Reads change nothing but the response and, where the
value is unspecified, the count of free values drawn (R87). -/
def hostRead (a : Addr) (s : State) : State :=
  match decodeAddr a with
  | .error _ => respond ⟨some 0#32, true⟩ s
  | .ok t =>
    if s.busy && !t.definedWhileBusy then
      respond ⟨some (Config.freeWord s.fresh), false⟩ { s with fresh := s.fresh + 1 }
    else respond ⟨some (peek s t), false⟩ s

/-! ### Writes -/

/-- A write to CTRL: a soft reset when SRST is 1, the written IRQ_EN discarded (R34). -/
def writeCtrl (d : Word) (s : State) : State := if d.getLsbD 0 then softReset s else s.setIrqEn d

/-- A write to a register that takes none while BUSY = 1: it is dropped and sets OVR (R390). -/
def unlessBusy (s : State) (write : State → State) : State :=
  if s.busy then { s with ovr := true } else write s

/-- The effect of a host write of `d` to a target (R32, R34 to R40, R86, R390). A write to a read-only
or constant target has no effect, busy or not. -/
def poke (t : Target) (d : Word) (s : State) : State :=
  match t with
  | .ctrl => writeCtrl d s
  | .status => s.clearStatus d
  | .cmd => unlessBusy s (issue d)
  | .textLen => unlessBusy s fun s => { s with textLen := d.setWidth 9 }
  | .cwBuf i => unlessBusy s fun s => { s with cwBuf := s.cwBuf.set i (d.setWidth 8) }
  | .textBuf i => unlessBusy s fun s => { s with textBuf := s.textBuf.set i (d.setWidth 8) }
  | .id | .result | .errInfo | .modeInfo | .penTotal | .penRun | .penBlock | .penFinder | .penBalance
  | .blackCount | .bestInfo | .bestPenalty | .maskPen _ | .synd _ | .genRom _ | .matrix _ | .best _ => s

/-- A host write of `d` to `a` (R82, R85, R86, R390). -/
def hostWrite (a : Addr) (d : Word) (s : State) : State :=
  match decodeAddr a with
  | .error .misaligned => respond ⟨some 0#32, true⟩ s
  | .error .unmapped => respond ⟨none, true⟩ s
  | .ok t => respond ⟨none, false⟩ (poke t d s)

/-- One completed host transfer, an atomic host step (R81, R88). -/
def hostTransfer (t : Transfer) (s : State) : State :=
  match t with
  | .read a => hostRead a s
  | .write a d => hostWrite a d s

/-! ### One clock edge without a completion -/

/-- A rising edge with `rst_n` = 0: a hardware reset, in whatever state; a transfer made in it "complete[s] with an
unspecified response" (R380). -/
def resetEdge (t : Option Transfer) (s : State) : State :=
  match t with
  | none => hardReset s
  | some _ =>
    respond ⟨some (Config.freeWord s.fresh), Config.freeBit s.fresh⟩ { hardReset s with fresh := s.fresh + 1 }

/-- The next host event takes place (R9, R81). -/
def hostStep (s : State) : State :=
  match s.host with
  | [] => s
  | .idle :: rest => { s with host := rest }
  | .transfer 0 t :: rest => hostTransfer t { s with host := rest }
  | .transfer (n + 1) t :: rest => { s with host := .transfer n t :: rest }
  | .hwReset t :: rest => resetEdge t { s with host := rest }

/-- No transfer completes in the coming cycle unless the host's event says so. -/
def quiet (s : State) : State := { s with bus := none }

/-- One edge less to pass before the completion step of the command in flight (R392). -/
def tick (s : State) : State := { s with delay := s.delay - 1 }

/-- A clock edge at which no completion step fires. -/
def hostEdge (s : State) : State := hostStep (tick (quiet s))

/-! ### The output pins (R80) -/

/-- `bus_ready`: a transfer completed in the last cycle (R80). -/
def State.busReady (s : State) : Bool := s.bus.isSome

/-- `bus_rdata`, "valid when `bus_ready = 1`" and the transfer has read data (R80). -/
def State.busRdata (s : State) : Option Word := s.bus.bind fun r => r.rdata

/-- `bus_err`, of the transfer that completed in the last cycle (R80). -/
def State.busErr (s : State) : Bool := (s.bus.map fun r => r.err).getD false

/-! ### Byte lanes (R83) -/

/-- "byte lane k carries bits 8k+7..8k (little-endian lane order)" (R83). -/
def byteLane (w : Word) (k : Nat) : Byte := w.extractLsb' (8 * k) 8

end Sys2Proof.Machine
end

