-- ==== Sys2Proof/Machine/Bitstream.lean ====
section
/-! DEFINITION. The bit-stream composer: characters (R211), mode (R212), checks (R213, R214), packing
(R215 to R217), padding (R218) and COMPOSE (R219). -/

namespace Sys2Proof.Machine

open Sys2Proof

/-! ### Characters -/

/-- The alphanumeric set in index order, as ASCII codes (R211). -/
def alnumSet : List Byte := [
  0x30#8, 0x31#8, 0x32#8, 0x33#8, 0x34#8, 0x35#8, 0x36#8, 0x37#8, 0x38#8, 0x39#8,
  0x41#8, 0x42#8, 0x43#8, 0x44#8, 0x45#8, 0x46#8, 0x47#8, 0x48#8, 0x49#8, 0x4A#8,
  0x4B#8, 0x4C#8, 0x4D#8, 0x4E#8, 0x4F#8, 0x50#8, 0x51#8, 0x52#8, 0x53#8, 0x54#8,
  0x55#8, 0x56#8, 0x57#8, 0x58#8, 0x59#8, 0x5A#8,
  0x20#8, 0x24#8, 0x25#8, 0x2A#8, 0x2B#8, 0x2D#8, 0x2E#8, 0x2F#8, 0x3A#8]

/-- `idx(t)`, the index of a code in the alphanumeric set; 45 for a code outside it. The packing
rules use it only after validation (R211, R214). -/
def charIndex (t : Byte) : Nat := alnumSet.idxOf t

/-- `valid(t)`: `t` is one of the 45 codes (R211). -/
def validChar (t : Byte) : Bool := decide (charIndex t < 45)

/-- A digit 0–9: a code in 0x30..0x39 (R212, R219). -/
def isDigit (t : Byte) : Bool := decide (0x30 ≤ t.toNat ∧ t.toNat ≤ 0x39)

/-- `d(t) = t − 0x30` (R216). -/
def digitValue (t : Byte) : Nat := t.toNat - 0x30

/-- Mode selection: alphanumeric unless every character is a digit; the empty text is numeric (R212). -/
def isAlnumText (t : List Byte) : Bool := !t.all isDigit

/-! ### Checks -/

/-- The information word of INVALID_CHARACTER: `info[8:0] = k`, `info[23:16] = T[k]` (R214). -/
def invalidInfo (k : Nat) (t : Byte) : Word := (t.setWidth 32 <<< 16) ||| BitVec.ofNat 32 k

/-- The first invalid character's index and code (R214). -/
def firstInvalid : Nat → List Byte → Option (Nat × Byte)
  | _, [] => none
  | k, t :: ts => if validChar t then firstInvalid (k + 1) ts else some (k, t)

/-! ### Packing -/

/-- Numeric packing in runs of 3, 2 or 1 digits (R216). -/
def packNumeric : List Byte → List Bool
  | a :: b :: c :: ts => bin 10 (100 * digitValue a + 10 * digitValue b + digitValue c) ++ packNumeric ts
  | [a, b] => bin 7 (10 * digitValue a + digitValue b)
  | [a] => bin 4 (digitValue a)
  | [] => []

/-- Alphanumeric packing in pairs (R217). -/
def packAlnum : List Byte → List Bool
  | a :: b :: ts => bin 11 (45 * charIndex a + charIndex b) ++ packAlnum ts
  | [a] => bin 6 (charIndex a)
  | [] => []

/-- `H ++ P`: mode indicator, character count, packed data (R215). -/
def compose (t : List Byte) : List Bool :=
  if isAlnumText t then [false, false, true, false] ++ bin 9 t.length ++ packAlnum t
  else [false, false, false, true] ++ bin 10 t.length ++ packNumeric t

/-! ### Padding (R218) -/

/-- `s` followed by up to `n` zero bits, bounded so as not to exceed capacity. -/
def addZeros (n : Nat) (s : List Bool) : List Bool := s ++ List.replicate (min n (152 - s.length)) false

/-- Pad byte `k`: `11101100` at even `k`, `00010001` at odd `k`. -/
def padByte (k : Nat) : List Bool := if k % 2 = 0 then bin 8 0xEC else bin 8 0x11

/-- The pad bytes from the `k`-th on, while the length is below 152. Nineteen pad bytes fill the whole
capacity, so `fuel` 19 is never used up before. -/
def addPadBytes : Nat → Nat → List Bool → List Bool
  | 0, _, s => s
  | fuel + 1, k, s => if s.length < 152 then addPadBytes fuel (k + 1) (s ++ padByte k) else s

/-- Terminator, byte alignment, pad bytes (R218, steps 1 to 3). -/
def padBits (s : List Bool) : List Bool :=
  let t := addZeros 4 s
  addPadBytes 19 0 (addZeros ((8 - t.length % 8) % 8) t)

/-! ### The command -/

/-- CW_BUF with CW_BUF[0..18] cut from a bit stream, CW_BUF[19..25] unchanged (R219). -/
def withData (bits : List Bool) (cw : Vector Byte 26) : Vector Byte 26 :=
  tabulate fun k => if k.val < 19 then byteOfBits bits k else cw[k]

/-- COMPOSE's writes: CW_BUF[0..18] and MODE_INFO (R219). -/
def setComposed (t : List Byte) (s : State) : State :=
  { s with
    cwBuf := withData (padBits (compose t)) s.cwBuf
    modeAlnum := isAlnumText t
    modeValid := true
    dataBits := BitVec.ofNat 8 (compose t).length }

/-- `perform` of COMPOSE, its errors in the priority of R219. -/
def performCompose (s : State) : Except CmdError State :=
  if 256 < s.textCount then .error ⟨.capacityExceeded, 0#32⟩
  else
    match firstInvalid 0 s.text with
    | some (k, t) => .error ⟨.invalidCharacter, invalidInfo k t⟩
    | none =>
      if 152 < (compose s.text).length then .error ⟨.capacityExceeded, BitVec.ofNat 32 (compose s.text).length⟩
      else .ok (setComposed s.text s)

/-- `COMPOSE` (R219). -/
def execCompose (s : State) : Outcome := finish s (performCompose s)

end Sys2Proof.Machine
end

