-- ==== Sys2Proof/Machine/Penalty.lean ====
section
/-! DEFINITION. The penalty scanner: the four rules (R281 to R284) and PENALTY (R285). -/

namespace Sys2Proof.Machine

open Sys2Proof

/-! ### Rule 1: runs (R281) -/

/-- The cost of one maximal run: "cost = 3 + (run_length − 5)" for 5 or more (R281). -/
def runCost (n : Nat) : Nat := if 5 ≤ n then 3 + (n - 5) else 0

/-- Rule 1's cost of the rest of a line, inside a run of colour `c` that is `n` long so far: the run
goes on while the colour is the same, and is scored when it ends. -/
def runCostFrom (c : Bool) (n : Nat) : List Bool → Nat
  | [] => runCost n
  | b :: bs => if b = c then runCostFrom c (n + 1) bs else runCost n + runCostFrom b 1 bs

/-- Rule 1's cost of one line (R281). -/
def lineRunCost : List Bool → Nat
  | [] => 0
  | b :: bs => runCostFrom b 1 bs

/-! ### Rule 2: blocks (R282) -/

/-- Rule 2's cost of the 2×2 windows of two adjacent rows. -/
def blockCostOf : List Bool → List Bool → Nat
  | a :: b :: u, c :: d :: v =>
    (if a = b ∧ b = c ∧ c = d then 3 else 0) + blockCostOf (b :: u) (d :: v)
  | _, _ => 0

/-- Rule 2's cost of a grid given by its rows: every 2×2 window counted. -/
def blockCost : List (List Bool) → Nat
  | u :: v :: rest => blockCostOf u v + blockCost (v :: rest)
  | _ => 0

/-! ### Rule 3: finder-like sequences (R283) -/

/-- `FP = 1011101`, black = true. -/
def finderSequence : List Bool := [true, false, true, true, true, false, true]

/-- `white(L, q) = (q < 0) or (q > 20) or (L[q] = 0)` (R283). -/
def white (line : List Bool) (q : Int) : Bool :=
  decide (q < 0) || decide (20 < q) || !line.getD q.toNat false

/-- 40 when the four positions `q .. q+3` are all white. -/
def sideCost (line : List Bool) (q : Int) : Nat :=
  if white line q && white line (q + 1) && white line (q + 2) && white line (q + 3) then 40 else 0

/-- Rule 3's cost of the occurrence at `p`, each side checked independently. -/
def finderCostAt (line : List Bool) (p : Nat) : Nat :=
  if (line.drop p).take 7 = finderSequence then sideCost line (p - 4) + sideCost line (p + 7) else 0

/-- Rule 3's cost of one line. -/
def lineFinderCost (line : List Bool) : Nat := ((List.range 15).map (finderCostAt line)).sum

/-! ### Rule 4: balance (R284) -/

/-- The rounded percentage of `b` black modules of 441. -/
def blackPercent (b : Nat) : Nat := (200 * b + 441) / 882

/-- Rule 4's cost of `b` black modules. -/
def balanceCost (b : Nat) : Nat :=
  let lower := blackPercent b - blackPercent b % 5
  let upper := lower + 5
  10 * min ((lower / 5 : Int) - 10).natAbs ((upper / 5 : Int) - 10).natAbs

/-! ### The score of a grid -/

/-- The four costs of a grid and its number of black modules. -/
structure Score where
  run : Nat
  block : Nat
  finder : Nat
  balance : Nat
  black : Nat
  deriving DecidableEq, Repr

/-- `T = P1 + P2 + P3 + P4`. -/
def Score.total (p : Score) : Nat := p.run + p.block + p.finder + p.balance

/-- The score of a colour grid: R281 to R284. -/
def scoreGrid (k : Vector Bool 441) : Score :=
  let rows := gridRows k
  let lines := linesOf rows
  let black := k.toList.count true
  { run := (lines.map lineRunCost).sum
    block := blockCost rows
    finder := (lines.map lineFinderCost).sum
    balance := balanceCost black
    black := black }

/-! ### The command -/

/-- The writes of PENALTY: the five PEN registers and BLACK_COUNT (R285). -/
def setScore (p : Score) (s : State) : State :=
  { s with
    penRun := BitVec.ofNat 16 p.run
    penBlock := BitVec.ofNat 16 p.block
    penFinder := BitVec.ofNat 16 p.finder
    penBalance := BitVec.ofNat 16 p.balance
    penTotal := BitVec.ofNat 16 p.total
    blackCount := BitVec.ofNat 9 p.black }

/-- `perform` of PENALTY: NOT_RENDERED(0) when some MATRIX element is unset (R285). -/
def performPenalty (s : State) : Except CmdError State :=
  if ModuleState.unset ∈ s.matrix.toList then .error ⟨.notRendered, 0#32⟩
  else .ok (setScore (scoreGrid (colourGrid s.matrix)) s)

/-- `PENALTY` (R285). -/
def execPenalty (s : State) : Outcome := finish s (performPenalty s)

end Sys2Proof.Machine
end

