-- ==== Sys2Proof/Machine/Render.lean ====
section
/-! DEFINITION. The module-matrix renderer: structural patterns (R241 to R248), the format ROM (R246),
the masks (R249), the placement order (R250) and RENDER (R252). -/

namespace Sys2Proof.Machine

open Sys2Proof

/-- A module's coordinates, row then column (R17). -/
abbrev Coord := Nat × Nat

/-- Row-major linear index `21r + c` (R17). -/
def linear (p : Coord) : Nat := 21 * p.1 + p.2

/-! ### Structural patterns: `some true` is reserved-black, `some false` reserved-white -/

/-- `|a − b|` on naturals (R14). -/
def dist (a b : Nat) : Nat := (a - b) + (b - a)

/-- The colour of a cell of the finder whose top-left cell is (r0, c0): white on the 5×5 ring (R241). -/
def finderAt (r0 c0 r c : Nat) : Option Bool :=
  if r0 ≤ r ∧ r ≤ r0 + 6 ∧ c0 ≤ c ∧ c ≤ c0 + 6 then
    some (decide (max (dist (r - r0) 3) (dist (c - c0) 3) ≠ 2))
  else none

/-- The three finder patterns (R241). -/
def finderCell (r c : Nat) : Option Bool :=
  (finderAt 0 0 r c).or ((finderAt 0 14 r c).or (finderAt 14 0 r c))

/-- The separator cells, all reserved-white (R242). -/
def separatorCell (r c : Nat) : Bool :=
  (r == 7 && decide (c ≤ 7)) || (c == 7 && decide (r ≤ 7)) ||
  (r == 7 && decide (13 ≤ c)) || (c == 13 && decide (r ≤ 7)) ||
  (r == 13 && decide (c ≤ 7)) || (c == 7 && decide (13 ≤ r))

/-- The timing cells: row 6 columns 8..12 and column 6 rows 8..12, black at an even index (R243). -/
def timingCell (r c : Nat) : Option Bool :=
  if r = 6 ∧ 8 ≤ c ∧ c ≤ 12 then some (c % 2 == 0)
  else if c = 6 ∧ 8 ≤ r ∧ r ≤ 12 then some (r % 2 == 0)
  else none

/-- The format-string ROM `FMT[0..7]` (R246). -/
def fmtRom : Vector (BitVec 15) 8 :=
  #v[0x77C4#15, 0x72F3#15, 0x7DAA#15, 0x789D#15, 0x662F#15, 0x6318#15, 0x6C41#15, 0x6976#15]

/-- One step of the BCH remainder: "if rem[i] = 1 then rem <- rem ⊕ (0x537 << (i - 10))" (R246). -/
def bchStep (rem i : Nat) : Nat := if rem.testBit i then rem ^^^ (0x537 <<< (i - 10)) else rem

/-- R246's computation of FMT[m] "for the reader's check"; the model reads `fmtRom`. -/
def bchFormat (m : Nat) : Nat :=
  let data := (0b01 <<< 3) ||| m
  ((data <<< 10) ||| [14, 13, 12, 11, 10].foldl bchStep (data <<< 10)) ^^^ 0x5412

/-- The two cells of each format bit, bit 0 first: copy 1 and copy 2 (R247). -/
def formatCells : List (Coord × Coord) := [
  ((0, 8), (8, 20)), ((1, 8), (8, 19)), ((2, 8), (8, 18)), ((3, 8), (8, 17)), ((4, 8), (8, 16)),
  ((5, 8), (8, 15)), ((7, 8), (8, 14)), ((8, 8), (8, 13)), ((8, 7), (14, 8)), ((8, 5), (15, 8)),
  ((8, 4), (16, 8)), ((8, 3), (17, 8)), ((8, 2), (18, 8)), ((8, 1), (19, 8)), ((8, 0), (20, 8))]

/-- The format bit a cell shows, if it is a format cell (R244, R247). -/
def formatBit (r c : Nat) : Option Nat := formatCells.findIdx? fun p => p.1 == (r, c) || p.2 == (r, c)

/-- The dark module (R245). -/
def darkCell (r c : Nat) : Bool := r == 13 && c == 8

/-- `STRUCT(m, r, c)` (R248): the regions are disjoint, so the order of the tests does not matter. -/
def structAt (m : BitVec 3) (r c : Nat) : Option Bool :=
  (finderCell r c).or <|
  (if separatorCell r c then some false else none).or <|
  (timingCell r c).or <|
  ((formatBit r c).map fun i => fmtRom[m.toFin].getLsbD i).or <|
  (if darkCell r c then some true else none)

/-! ### Masks -/

/-- `MASKFN(m, r, c)` (R249). -/
def maskFn (m : BitVec 3) (r c : Nat) : Bool :=
  match m with
  | 0#3 => (r + c) % 2 == 0
  | 1#3 => r % 2 == 0
  | 2#3 => c % 3 == 0
  | 3#3 => (r + c) % 3 == 0
  | 4#3 => (r / 2 + c / 3) % 2 == 0
  | 5#3 => (r * c) % 2 + (r * c) % 3 == 0
  | 6#3 => ((r * c) % 2 + (r * c) % 3) % 2 == 0
  | 7#3 => ((r + c) % 2 + (r * c) % 3) % 2 == 0

/-! ### Data placement (R250) -/

/-- The panes in traversal order: the right column, and whether the pane goes upward (R250). -/
def panes : List (Nat × Bool) := [
  (20, true), (18, false), (16, true), (14, false), (12, true),
  (10, false), (8, true), (5, false), (3, true), (1, false)]

/-- The cells of a pane in visiting order: at each row the right column, then the left (R250). -/
def paneCells (right : Nat) (upward : Bool) : List Coord :=
  (if upward then (List.range 21).reverse else List.range 21).flatMap fun r => [(r, right), (r, right - 1)]

/-- `ORDER`: the non-reserved cells in visiting order (R250). -/
def order : List Coord :=
  (panes.flatMap fun p => paneCells p.1 p.2).filter fun p => (structAt 0#3 p.1 p.2).isNone

/-- "The index k of each cell in ORDER" (R250), row by row; 208 where R250's table has `-`, a reserved
cell. `order_placement` in Sys2Proof/Laws/Render.lean says that it is `order` read backwards. -/
def placementRows : List (List Nat) := [
  [208, 208, 208, 208, 208, 208, 208, 208, 208, 137, 136, 135, 134, 208, 208, 208, 208, 208, 208, 208, 208],
  [208, 208, 208, 208, 208, 208, 208, 208, 208, 139, 138, 133, 132, 208, 208, 208, 208, 208, 208, 208, 208],
  [208, 208, 208, 208, 208, 208, 208, 208, 208, 141, 140, 131, 130, 208, 208, 208, 208, 208, 208, 208, 208],
  [208, 208, 208, 208, 208, 208, 208, 208, 208, 143, 142, 129, 128, 208, 208, 208, 208, 208, 208, 208, 208],
  [208, 208, 208, 208, 208, 208, 208, 208, 208, 145, 144, 127, 126, 208, 208, 208, 208, 208, 208, 208, 208],
  [208, 208, 208, 208, 208, 208, 208, 208, 208, 147, 146, 125, 124, 208, 208, 208, 208, 208, 208, 208, 208],
  [208, 208, 208, 208, 208, 208, 208, 208, 208, 208, 208, 208, 208, 208, 208, 208, 208, 208, 208, 208, 208],
  [208, 208, 208, 208, 208, 208, 208, 208, 208, 149, 148, 123, 122, 208, 208, 208, 208, 208, 208, 208, 208],
  [208, 208, 208, 208, 208, 208, 208, 208, 208, 151, 150, 121, 120, 208, 208, 208, 208, 208, 208, 208, 208],
  [201, 200, 199, 198, 185, 184, 208, 183, 182, 153, 152, 119, 118,  73,  72,  71,  70,  25,  24,  23,  22],
  [203, 202, 197, 196, 187, 186, 208, 181, 180, 155, 154, 117, 116,  75,  74,  69,  68,  27,  26,  21,  20],
  [205, 204, 195, 194, 189, 188, 208, 179, 178, 157, 156, 115, 114,  77,  76,  67,  66,  29,  28,  19,  18],
  [207, 206, 193, 192, 191, 190, 208, 177, 176, 159, 158, 113, 112,  79,  78,  65,  64,  31,  30,  17,  16],
  [208, 208, 208, 208, 208, 208, 208, 208, 208, 161, 160, 111, 110,  81,  80,  63,  62,  33,  32,  15,  14],
  [208, 208, 208, 208, 208, 208, 208, 208, 208, 163, 162, 109, 108,  83,  82,  61,  60,  35,  34,  13,  12],
  [208, 208, 208, 208, 208, 208, 208, 208, 208, 165, 164, 107, 106,  85,  84,  59,  58,  37,  36,  11,  10],
  [208, 208, 208, 208, 208, 208, 208, 208, 208, 167, 166, 105, 104,  87,  86,  57,  56,  39,  38,   9,   8],
  [208, 208, 208, 208, 208, 208, 208, 208, 208, 169, 168, 103, 102,  89,  88,  55,  54,  41,  40,   7,   6],
  [208, 208, 208, 208, 208, 208, 208, 208, 208, 171, 170, 101, 100,  91,  90,  53,  52,  43,  42,   5,   4],
  [208, 208, 208, 208, 208, 208, 208, 208, 208, 173, 172,  99,  98,  93,  92,  51,  50,  45,  44,   3,   2],
  [208, 208, 208, 208, 208, 208, 208, 208, 208, 175, 174,  97,  96,  95,  94,  49,  48,  47,  46,   1,   0]]

/-- The placement table in row-major order. -/
def placement : List Nat := placementRows.flatten

/-! ### The command -/

/-- The module of mask `m` at the cell (r, c) whose index in ORDER is `k` (R252): the structural module
if the cell is reserved, else the data module of `BITS[k] ⊕ MASKFN(m, r, c)` (R251). -/
def moduleAt (cw : Vector Byte 26) (m : BitVec 3) (r c k : Nat) : ModuleState :=
  match structAt m r c with
  | some black => reservedModule black
  | none => dataModule (xor (streamBit cw k) (maskFn m r c))

/-- The modules of the cells from linear index `q` on, given their indices in ORDER. -/
def modulesFrom (cw : Vector Byte 26) (m : BitVec 3) : Nat → List Nat → List ModuleState
  | _, [] => []
  | q, k :: ks => moduleAt cw m (q / 21) (q % 21) k :: modulesFrom cw m (q + 1) ks

theorem length_modulesFrom (cw : Vector Byte 26) (m : BitVec 3) (q : Nat) (ks : List Nat) :
    (modulesFrom cw m q ks).length = ks.length := by
  induction ks generalizing q with
  | nil => rfl
  | cons k ks ih => simp [modulesFrom, ih]

theorem length_placement : placement.length = 441 := by decide +kernel

/-- The matrix of mask `m` for given codewords (R252): cell `q` is the module at row `q / 21`, column
`q % 21`. -/
def render (cw : Vector Byte 26) (m : BitVec 3) : Vector ModuleState 441 :=
  ⟨⟨modulesFrom cw m 0 placement⟩, (length_modulesFrom cw m 0 placement).trans length_placement⟩

/-- R252's pseudocode as it is written: clear, draw the structural cells, then place bit `k` at
`ORDER[k]` for k = 0, 1, …, 207 in turn. It is the same matrix as `render`. -/
def renderInOrder (cw : Vector Byte 26) (m : BitVec 3) : Vector ModuleState 441 :=
  let structural : Vector ModuleState 441 := fill 441 fun q =>
    ((structAt m (q / 21) (q % 21)).map reservedModule).getD .unset
  (order.zip (codewordBits cw)).foldl
    (fun mat pb => mat.setIfInBounds (linear pb.1) (dataModule (xor pb.2 (maskFn m pb.1.1 pb.1.2)))) structural

/-- `perform` of RENDER; it cannot fail (R252). -/
def performRender (m : BitVec 3) (s : State) : State := { s with matrix := render s.cwBuf m }

/-- `RENDER m` (R252). -/
def execRender (m : BitVec 3) (s : State) : Outcome := finish s (.ok (performRender m s))

end Sys2Proof.Machine
end

