-- ==== Sys2Proof/Machine/Select.lean ====
section
/-! DEFINITION. NOP (R310), the mask selector SELECT (R312) and the whole pipeline ENCODE (R314). -/

namespace Sys2Proof.Machine

open Sys2Proof

/-- `NOP`: "Reads: nothing. Pseudocode: `return ok`. Writes: nothing." (R310). -/
def execNop (s : State) : Outcome := finish s (.ok s)

/-! ### The trials -/

/-- One mask trial: the mask, its rendered matrix, and the score of its colour grid (R312). -/
structure Trial where
  mask : BitVec 3
  matrix : Vector ModuleState 441
  score : Score
  deriving DecidableEq, Repr

/-- The trial of mask `m` (R312). -/
def trial (cw : Vector Byte 26) (m : BitVec 3) : Trial :=
  let mat := render cw m
  ⟨m, mat, scoreGrid (colourGrid mat)⟩

/-- The retained trial after the trials of a list, taken in order: the one retained so far is replaced
"if this penalty is strictly less than the best penalty seen so far" (R311). -/
def keepBest (best : Trial) : List Trial → Trial
  | [] => best
  | t :: ts => if t.score.total < best.score.total then keepBest t ts else keepBest best ts

/-- The retained trial of masks 0..7 in order; mask 0 is always retained first (R311, R312). -/
def bestTrial (cw : Vector Byte 26) : Trial :=
  keepBest (trial cw 0#3) ([1#3, 2#3, 3#3, 4#3, 5#3, 6#3, 7#3].map (trial cw))

/-! ### SELECT -/

/-- `perform` of SELECT; it cannot fail. BEST is a copy of the best trial's colours; MATRIX and the
PEN registers are left as the mask-7 trial (R312). -/
def performSelect (s : State) : State :=
  let best := bestTrial s.cwBuf
  let last := trial s.cwBuf 7#3
  setScore last.score
    { s with
      maskPen := tabulate fun m : Fin 8 => BitVec.ofNat 16 (trial s.cwBuf (BitVec.ofFin m)).score.total
      best := colourGrid best.matrix
      bestMask := best.mask
      bestValid := true
      bestPenalty := BitVec.ofNat 16 best.score.total
      matrix := last.matrix }

/-- `SELECT` (R312). -/
def execSelect (s : State) : Outcome := finish s (.ok (performSelect s))

/-! ### ENCODE -/

/-- `perform` of ENCODE: COMPOSE, then RS_ENCODE, then SELECT, as one command; an error of COMPOSE is
ENCODE's error, with nothing written (R314). -/
def performEncode (s : State) : Except CmdError State :=
  match performCompose s with
  | .error e => .error e
  | .ok s1 => .ok (performSelect (performRsEncode s1))

/-- `ENCODE` (R314). -/
def execEncode (s : State) : Outcome := finish s (performEncode s)

end Sys2Proof.Machine
end

