-- ==== Sys2Proof/Machine/Dispatch.lean ====
section
/-! DEFINITION. The dispatch: one arm per instruction, each one call of its meaning. -/

namespace Sys2Proof.Machine

open Sys2Proof

def exec (i : Instr) (s : State) : Host.Outcome State Fault Refusal :=
  match i with
  | .nop => Sys2Proof.Machine.execNop s
  | .gfAdd x y => Sys2Proof.Machine.execGfAdd x y s
  | .gfSub x y => Sys2Proof.Machine.execGfSub x y s
  | .gfMul x y => Sys2Proof.Machine.execGfMul x y s
  | .gfDiv x y => Sys2Proof.Machine.execGfDiv x y s
  | .gfPow x e => Sys2Proof.Machine.execGfPow x e s
  | .gfInv x => Sys2Proof.Machine.execGfInv x s
  | .gfExp k => Sys2Proof.Machine.execGfExp k s
  | .gfLog x => Sys2Proof.Machine.execGfLog x s
  | .rsEncode => Sys2Proof.Machine.execRsEncode s
  | .rsSyndrome => Sys2Proof.Machine.execRsSyndrome s
  | .compose => Sys2Proof.Machine.execCompose s
  | .render m => Sys2Proof.Machine.execRender m s
  | .penalty => Sys2Proof.Machine.execPenalty s
  | .select => Sys2Proof.Machine.execSelect s
  | .encode => Sys2Proof.Machine.execEncode s

end Sys2Proof.Machine
end

