-- ==== Sys2Proof/Machine/Sequencer.lean ====
section
/-! DEFINITION. The command sequencer: the completion step (R118) and when it fires (R392). -/

namespace Sys2Proof.Machine

open Sys2Proof

/-- Whether the unit's one step, the completion step, fires at the next edge: a command is in flight
and its latency has passed (R118, R392), and the edge is not one with `rst_n` = 0, at which "QRCORE takes
the reset state" whatever it was doing (R380). -/
def completionDue (s : State) : Bool := !s.inReset && s.busy && s.delay == 0

/-- The completion step (R118): decode CUR_CMD, then perform the command, or raise
ILLEGAL_COMMAND with the whole word as information (R115). No transfer completes at this edge. -/
def completionStep (s : State) : Outcome :=
  match decode s.curCmd with
  | .ok i => exec i (quiet s)
  | .error _ => .next (raiseError ⟨.illegalCommand, s.curCmd⟩ (quiet s))

end Sys2Proof.Machine
end

