-- ==== Sys2Proof/Machine/Step.lean ====
section
/-! DEFINITION. One step of the machine: one rising edge of `clk` (R80), at which either the unit
completes the command in flight (R118) or the next host event takes place (R9), a hardware reset before
all else (R380). -/

namespace Sys2Proof.Machine

open Sys2Proof

/-- One clock edge: the completion step when it is due, a host event otherwise. -/
def step (s : State) : Host.Outcome State Fault Refusal :=
  if completionDue s then completionStep s else .next (hostEdge s)

/-- `s` with the command word in flight and its completion step due at once: QRCORE fetches no
instructions (R31), and its next command is the word in CUR_CMD (R45, log entry 3). Edges in reset that
the host has planned before anything else are taken out, since none would let the command run (R380). -/
def State.withFetchWord (s : State) (nbits w : Nat) : State := loadCommand (tableWord nbits w) s

end Sys2Proof.Machine
end

