-- ==== Sys2Proof/Safety.lean ====
section
/-! DEFINITION. What a good state is: the invariant of the machine. Every clause comes from a rule of
the spec that says which values a piece of state can hold. -/

namespace Sys2Proof.Machine

open Sys2Proof

/-- A matrix no RENDER has written: "every element resets to unset" (R46, R285). -/
def Unrendered (mat : Vector ModuleState 441) : Prop := ∀ q : Fin 441, mat[q] = .unset

/-- A matrix some RENDER has written under mask `m`: the structural modules of `m` on the reserved cells
(R248), a data module on every other cell (R252). -/
def RenderedUnder (m : BitVec 3) (mat : Vector ModuleState 441) : Prop :=
  ∀ q : Fin 441,
    match structAt m (q.val / 21) (q.val % 21) with
    | some black => mat[q] = reservedModule black
    | none => mat[q] = .dataWhite ∨ mat[q] = .dataBlack

/-- A rendered matrix, under some mask. -/
def Rendered (mat : Vector ModuleState 441) : Prop := ∃ m, RenderedUnder m mat

/-- BEST shows the structural colours of mask `m` on the reserved cells (R313). -/
def ShowsStructure (m : BitVec 3) (best : Vector Bool 441) : Prop :=
  ∀ q : Fin 441, ∀ black, structAt m (q.val / 21) (q.val % 21) = some black → best[q] = black

/-- The invariant of QRCORE. -/
structure State.Inv (s : State) : Prop where
  /-- "reserved; QRCORE never writes them": codes 9 to 15 (R341, U16). -/
  errCode_known : s.errCode.toNat ≤ 8
  /-- ERR is set only together with a nonzero code (R341, R344). -/
  err_has_code : s.err = true → s.errCode ≠ 0#4
  /-- Code 0 has information 0 (R341). -/
  no_code_no_info : s.errCode = 0#4 → s.errInfo = 0#32
  /-- Issue has cleared the record of the previous command (R117). -/
  pending_clear : s.cmdState = .pending → s.done = false ∧ s.err = false ∧ s.errCode = 0#4
  /-- No latency runs while no command is in flight. -/
  idle_delay : s.cmdState = .idle → s.delay = 0
  /-- MATRIX is wholly unset or wholly rendered (R46, R252, R285). -/
  matrix_shape : Unrendered s.matrix ∨ Rendered s.matrix
  /-- Before the first SELECT or ENCODE the BEST registers hold their reset values (R47, R48, R51). -/
  no_best : s.bestValid = false →
    s.bestMask = 0#3 ∧ s.bestPenalty = 0#16 ∧ s.best = Vector.replicate 441 false ∧
    s.maskPen = Vector.replicate 8 0#16
  /-- After it, BEST_PENALTY is the least of MASK_PEN and BEST_MASK the least mask that has it, BEST
  shows that mask's structure, and MATRIX is rendered (R312, R313). -/
  has_best : s.bestValid = true →
    (∀ m : Fin 8, s.bestPenalty.toNat ≤ s.maskPen[m].toNat) ∧
    s.maskPen[s.bestMask.toFin] = s.bestPenalty ∧
    (∀ m : Fin 8, m.val < s.bestMask.toNat → s.bestPenalty.toNat < s.maskPen[m].toNat) ∧
    ShowsStructure s.bestMask s.best ∧ Rendered s.matrix
  /-- "PEN_TOTAL <- P1 + P2 + P3 + P4" (R285). -/
  total_is_sum : s.penTotal = s.penRun + s.penBlock + s.penFinder + s.penBalance
  /-- "number of black modules in that matrix (0..441)" (R44). -/
  black_bound : s.blackCount.toNat ≤ 441
  /-- MODE_INFO is 0 until a COMPOSE or ENCODE succeeds; DATA_BITS is 0 to 152 (R43). -/
  mode_info : (s.modeValid = false → s.modeAlnum = false ∧ s.dataBits = 0#8) ∧ s.dataBits.toNat ≤ 152

end Sys2Proof.Machine
end

