-- ==== Sys2Proof/Certificates/Slice0/Obligations.lean ====
section
/-! DEFINITION. The statements for the provers. A statement about an instruction's result gives the next
state as the old one with the named fields replaced, so it also says what the instruction leaves
unchanged (its frame). -/

namespace Sys2Proof.Claims

open Sys2Proof Sys2Proof.Machine

/-! ### Independent formulations the statements compare the model with -/

/-- `x · 2` in GF(2⁸) with the polynomial 0x11D: shift, and subtract the polynomial on overflow. -/
def double (x : Byte) : Byte := (x <<< 1) ^^^ (if x.getLsbD 7 then 0x1D#8 else 0#8)

/-- Schoolbook multiplication: the sum of `x · 2^i` over the set bits `i` of `y`. -/
def schoolMul (x y : Byte) : Byte :=
  ((List.range 8).map fun i => if y.getLsbD i then double^[i] x else 0#8).foldl (· ^^^ ·) 0#8

/-- The XOR of a list of field elements. -/
def xorSum (l : List Byte) : Byte := l.foldl (· ^^^ ·) 0#8

/-- `Σ_i CW_BUF[i] · α^(j·(25−i))`: R186's closed form of syndrome `j`. -/
def powerSum (cw : Vector Byte 26) (j : Nat) : Byte :=
  xorSum ((List.range 26).map fun i => gfMul (cw.toList.getD i 0#8) (expMod (j * (25 - i))))

/-- The RESULT of a command that completes without an error, from a state with ERR = 0. -/
def gfResult (i : Instr) (s : State) : Option Byte :=
  match exec i s with
  | .next t => if t.err then none else some t.result
  | .fault _ => none
  | .refused _ => none

/-- A valid text: every character is one of the 45 (R211). -/
def ValidText (t : List Byte) : Prop := ∀ c ∈ t, c ∈ alnumSet

/-- A text of digits only. -/
def DigitText (t : List Byte) : Prop := ∀ c ∈ t, 0x30 ≤ c.toNat ∧ c.toNat ≤ 0x39

/-- The closed form of L0 (R218). -/
def closedLength (t : List Byte) : Nat :=
  if t.all fun c => decide (0x30 ≤ c.toNat ∧ c.toNat ≤ 0x39) then
    14 + 10 * (t.length / 3) + (if t.length % 3 = 1 then 4 else if t.length % 3 = 2 then 7 else 0)
  else 13 + 11 * (t.length / 2) + 6 * (t.length % 2)

/-- The inputs on which COMPOSE and ENCODE succeed (R219): a length the buffer holds, valid characters,
and a composed length within capacity. -/
def Accepted (s : State) : Prop :=
  s.textCount ≤ 256 ∧ ValidText s.text ∧ closedLength s.text ≤ 152

/-- The colour at row `r`, column `c` of a grid. -/
def colourAt (k : Vector Bool 441) (r c : Nat) : Bool := k.toList.getD (21 * r + c) false

/-- Row `r` of a grid. -/
def rowLine (k : Vector Bool 441) (r : Nat) : List Bool := (List.range 21).map fun c => colourAt k r c

/-- Column `c` of a grid. -/
def columnLine (k : Vector Bool 441) (c : Nat) : List Bool := (List.range 21).map fun r => colourAt k r c

/-- `Σ_{i < n} f i`. -/
def sumTo (n : Nat) (f : Nat → Nat) : Nat := ((List.range n).map f).sum

/-- The sum of a line cost over the 42 lines of a grid (R280). -/
def overLines (cost : List Bool → Nat) (k : Vector Bool 441) : Nat :=
  sumTo 21 (fun r => cost (rowLine k r)) + sumTo 21 (fun c => cost (columnLine k c))

/-- Rule 2 by its index form (R282). -/
def windowCost (k : Vector Bool 441) : Nat :=
  sumTo 20 fun r => sumTo 20 fun c =>
    if colourAt k r c = colourAt k r (c + 1) ∧ colourAt k r (c + 1) = colourAt k (r + 1) c ∧
      colourAt k (r + 1) c = colourAt k (r + 1) (c + 1) then 3 else 0

/-- `white(L, q)` of R283: a position outside the matrix counts as white. -/
def whiteAt (line : Nat → Bool) (q : Int) : Bool := decide (q < 0) || decide (20 < q) || !line q.toNat

/-- Rule 3 at position `p` of a line by its index form (R283): 40 for each side of an occurrence of 1011101 whose
four positions beyond it are all white. -/
def finderAtCost (line : Nat → Bool) (p : Nat) : Nat :=
  if line p ∧ ¬ line (p + 1) ∧ line (p + 2) ∧ line (p + 3) ∧ line (p + 4) ∧ ¬ line (p + 5) ∧ line (p + 6) then
    (if whiteAt line (p - 4) ∧ whiteAt line (p - 3) ∧ whiteAt line (p - 2) ∧ whiteAt line (p - 1) then 40 else 0) +
    (if whiteAt line (p + 7) ∧ whiteAt line (p + 8) ∧ whiteAt line (p + 9) ∧ whiteAt line (p + 10) then 40 else 0)
  else 0

/-- Rule 3 by its index form, over the positions 0 to 14 of the 42 lines (R283). -/
def finderIndexCost (k : Vector Bool 441) : Nat :=
  sumTo 21 (fun r => sumTo 15 (finderAtCost fun c => colourAt k r c)) +
  sumTo 21 (fun c => sumTo 15 (finderAtCost fun r => colourAt k r c))

/-- The index of a character, by the ranges of R211's table; 45 for a character outside it. -/
def charValue (c : Byte) : Nat :=
  if 0x30 ≤ c.toNat ∧ c.toNat ≤ 0x39 then c.toNat - 0x30
  else if 0x41 ≤ c.toNat ∧ c.toNat ≤ 0x5A then c.toNat - 0x41 + 10
  else if c.toNat = 0x20 then 36
  else if c.toNat = 0x24 then 37
  else if c.toNat = 0x25 then 38
  else if c.toNat = 0x2A then 39
  else if c.toNat = 0x2B then 40
  else if c.toNat = 0x2D then 41
  else if c.toNat = 0x2E then 42
  else if c.toNat = 0x2F then 43
  else if c.toNat = 0x3A then 44
  else 45

/-- The index of character `k` of a text; of a digit, its value (R211, R216). -/
def valueAt (t : List Byte) (k : Nat) : Nat := charValue (t.getD k 0#8)

/-- The 208 bits of the codewords, each from its bit 7 down to its bit 0 (R41). -/
def bitList (cw : Vector Byte 26) : List Bool :=
  (List.range 208).map fun k => (cw.toList.getD (k / 8) 0#8).getLsbD (7 - k % 8)

/-- The number in the `w` bits from position `i` of a bit string, the first the most significant (R12). -/
def numberAt (bits : List Bool) (i w : Nat) : Nat :=
  sumTo w fun k => if bits.getD (i + k) false then 2 ^ (w - 1 - k) else 0

/-- The bits start with the header and the packed digits of a text in numeric mode (R215, R216). -/
def NumericStream (t : List Byte) (bits : List Bool) : Prop :=
  bits.take 4 = [false, false, false, true] ∧ numberAt bits 4 10 = t.length ∧
  (∀ g, 3 * g + 2 < t.length → numberAt bits (14 + 10 * g) 10 =
    100 * valueAt t (3 * g) + 10 * valueAt t (3 * g + 1) + valueAt t (3 * g + 2)) ∧
  (∀ g, t.length = 3 * g + 2 → numberAt bits (14 + 10 * g) 7 = 10 * valueAt t (3 * g) + valueAt t (3 * g + 1)) ∧
  (∀ g, t.length = 3 * g + 1 → numberAt bits (14 + 10 * g) 4 = valueAt t (3 * g))

/-- The bits start with the header and the packed pairs of a text in alphanumeric mode (R215, R217). -/
def AlnumStream (t : List Byte) (bits : List Bool) : Prop :=
  bits.take 4 = [false, false, true, false] ∧ numberAt bits 4 9 = t.length ∧
  (∀ g, 2 * g + 1 < t.length →
    numberAt bits (13 + 11 * g) 11 = 45 * valueAt t (2 * g) + valueAt t (2 * g + 1)) ∧
  (∀ g, t.length = 2 * g + 1 → numberAt bits (13 + 11 * g) 6 = valueAt t (2 * g))

/-- The module-state codes (R46). -/
def moduleCode : ModuleState → Nat
  | .unset => 0
  | .dataWhite => 2
  | .dataBlack => 3
  | .reservedWhite => 4
  | .reservedBlack => 5

/-- The total penalty of mask `m` for given codewords (R312). -/
def maskTotal (cw : Vector Byte 26) (m : BitVec 3) : Nat := (scoreGrid (colourGrid (render cw m))).total

/-- A state with a command in flight whose latency has passed, and the coming edge not one of a hardware
reset (R380). -/
def Due (s : State) : Prop :=
  s.cmdState = .pending ∧ s.delay = 0 ∧ ∀ x, s.host.head? ≠ some (.hwReset x)

/-- The machine's state in everything but the bus outputs, the host's plans, the latency argument and the
count of free values: what the spec calls the state of QRCORE, with `RAM_INIT`. -/
def sameUnit (s t : State) : Prop :=
  t = { s with bus := t.bus, host := t.host, latency := t.latency, delay := t.delay, fresh := t.fresh }

end Sys2Proof.Claims

open Sys2Proof Sys2Proof.Machine Sys2Proof.Claims

/-! ### Encoding -/

/-- R120, R116: decode of encode is the instruction, for every instruction and every operand value. -/
def Obligations.DecodeOfEncode : Prop :=
  ∀ i : Instr, i.wf = true → decode (encode i) = .ok i

/-- R115: every word is either exactly one command or illegal; a legal word is its command's encoding. -/
def Obligations.EncodeOfDecode : Prop :=
  ∀ (w : Word) (i : Instr), decode w = .ok i → encode i = w

/-- R114, R115: a row of R114's match and mask table selects a word exactly when the word decodes to a command
of that row; a word that no row selects is illegal; and no two rows select the same word. -/
def Obligations.DecodeAgreesWithMaskTable : Prop :=
  (∀ w : Word, ∀ r ∈ opcodeTable,
    w &&& r.mask = r.pattern ↔ ∃ i, decode w = .ok i ∧ i.spelling.mnemonic = r.mnemonic) ∧
  (∀ w : Word, (∀ r ∈ opcodeTable, w &&& r.mask ≠ r.pattern) → ∃ e, decode w = .error e) ∧
  (∀ (w : Word), ∀ r ∈ opcodeTable, ∀ r' ∈ opcodeTable,
    w &&& r.mask = r.pattern → w &&& r'.mask = r'.pattern → r = r')

/-- R120: the assembler accepts exactly the well-formed lines, and the word it makes of an instruction's
spelling is the instruction's encoding. -/
def Obligations.AssemblerAgreesWithEncoder : Prop :=
  (∀ l : AsmLine, (∃ w, assemble l = some w) ↔ ∃ i : Instr, i.spelling = l) ∧
  (∀ i : Instr, assemble i.spelling = some (encode i))

/-- V-ENC, R120: words written out from the spec's encodings decode to the commands they stand for. -/
def Obligations.WrittenWordsDecode : Prop :=
  decode 0x00000000#32 = .ok .nop ∧ decode 0x00070303#32 = .ok (.gfMul 3#8 7#8) ∧
  decode 0x00000206#32 = .ok (.gfInv 2#8) ∧ decode 0x00000530#32 = .ok (.render 5#3) ∧
  decode 0x00000041#32 = .ok .encode ∧ decode 0x01000003#32 = .error .zNonzero ∧
  decode 0x00000009#32 = .error .unassigned ∧ decode 0x00010006#32 = .error .operandNonzero ∧
  decode 0x00000830#32 = .error .operandNonzero

/-! ### GF(256) -/

/-- R141, R142, R143: the EXP recurrence, LOG as its inverse on 1..255, and no LOG of 0. -/
def Obligations.ExpAndLogTables : Prop :=
  expTable[0] = 1#8 ∧
  (∀ (i : Nat) (h : i + 1 < 256), expTable[i + 1] = double (expTable[i]'(by omega))) ∧
  expTable[255] = 1#8 ∧
  (∀ (i : Nat) (h : i < 255), logOf (expTable[i]'(by omega)) = some i) ∧
  (∀ x : Byte, x ≠ 0#8 → ∃ (i : Nat) (h : i < 255), logOf x = some i ∧ expTable[i]'(by omega) = x) ∧
  logOf 0#8 = none

/-- R150, R151: GF_ADD and GF_SUB write the exclusive-or, and nothing else but the completion. -/
def Obligations.GfAddAndGfSubAreXor : Prop :=
  ∀ (x y : Byte) (s : State),
    decode (packWord 0x01#8 x y) = .ok (.gfAdd x y) ∧ decode (packWord 0x02#8 x y) = .ok (.gfSub x y) ∧
    exec (.gfAdd x y) s = .next { s with result := x ^^^ y, done := true, cmdState := .idle } ∧
    exec (.gfSub x y) s = .next { s with result := x ^^^ y, done := true, cmdState := .idle }

/-- R152: GF_MUL by LOG and EXP, 0 when an operand is 0; only RESULT is written. -/
def Obligations.GfMulByLogTables : Prop :=
  ∀ (x y : Byte) (s : State),
    decode (packWord 0x03#8 x y) = .ok (.gfMul x y) ∧
    ∃ r : Byte, exec (.gfMul x y) s = .next { s with result := r, done := true, cmdState := .idle } ∧
      (x = 0#8 ∨ y = 0#8 → r = 0#8) ∧
      (∀ a b, logOf x = some a → logOf y = some b →
        a + b ≤ 508 ∧ r = expTable[(a + b) % 255]'(by omega)) ∧
      (x = 1#8 → r = y) ∧ (y = 1#8 → r = x) ∧ (x = 2#8 → y = 128#8 → r = 29#8) ∧
      exec (.gfMul y x) s = exec (.gfMul x y) s

/-- R140, R152: GF_MUL is multiplication of polynomials modulo x⁸ + x⁴ + x³ + x² + 1, for every pair. -/
def Obligations.GfMulIsPolynomialProduct : Prop :=
  ∀ (x y : Byte) (s : State),
    exec (.gfMul x y) s = .next { s with result := schoolMul x y, done := true, cmdState := .idle }

/-- R153: GF_DIV raises DIVISION_BY_ZERO when y = 0, also when x = 0; otherwise it divides by LOG and EXP. -/
def Obligations.GfDivByLogTables : Prop :=
  ∀ (x y : Byte) (s : State),
    decode (packWord 0x04#8 x y) = .ok (.gfDiv x y) ∧
    (y = 0#8 → exec (.gfDiv x y) s = .next { s with
      err := true, errCode := 4#4, errInfo := s.curCmd, done := true, cmdState := .idle }) ∧
    (y ≠ 0#8 → ∃ r : Byte, exec (.gfDiv x y) s = .next { s with result := r, done := true, cmdState := .idle } ∧
      (x = 0#8 → r = 0#8) ∧
      (∀ a b, logOf x = some a → logOf y = some b → r = expTable[(a + 255 - b) % 255]'(by omega)) ∧
      (x ≠ 0#8 → x = y → r = 1#8) ∧ (y = 1#8 → r = x) ∧ (x = 2#8 → y = 128#8 → r = 54#8))

/-- R154: GF_POW raises POW_OF_ZERO when x = 0, for every e; otherwise it raises by LOG and EXP. -/
def Obligations.GfPowByLogTables : Prop :=
  ∀ (x e : Byte) (s : State),
    decode (packWord 0x05#8 x e) = .ok (.gfPow x e) ∧
    (x = 0#8 → exec (.gfPow x e) s = .next { s with
      err := true, errCode := 7#4, errInfo := s.curCmd, done := true, cmdState := .idle }) ∧
    (x ≠ 0#8 → ∃ r : Byte, exec (.gfPow x e) s = .next { s with result := r, done := true, cmdState := .idle } ∧
      (∀ a, logOf x = some a → a * e.toNat ≤ 64770 ∧ r = expTable[(a * e.toNat) % 255]'(by omega)) ∧
      (e = 0#8 → r = 1#8) ∧ (e = 1#8 → r = x) ∧ (e = 255#8 → r = 1#8) ∧ (x = 1#8 → r = 1#8) ∧
      (x = 2#8 → e = 8#8 → r = 29#8))

/-- R155: GF_INV raises INVERSE_OF_ZERO when x = 0; otherwise it reads EXP[255 − LOG[x]]. -/
def Obligations.GfInvByLogTables : Prop :=
  ∀ (x : Byte) (s : State),
    decode (packWord 0x06#8 x 0#8) = .ok (.gfInv x) ∧
    (x = 0#8 → exec (.gfInv x) s = .next { s with
      err := true, errCode := 5#4, errInfo := s.curCmd, done := true, cmdState := .idle }) ∧
    (x ≠ 0#8 → ∃ r : Byte, exec (.gfInv x) s = .next { s with result := r, done := true, cmdState := .idle } ∧
      (∀ a, logOf x = some a → r = expTable[255 - a]'(by omega)) ∧
      (∃ u, exec (.gfInv r) s = .next { s with result := u, done := true, cmdState := .idle } ∧ u = x) ∧
      (x = 1#8 → r = 1#8) ∧ (x = 2#8 → r = 142#8))

/-- R156, R157: GF_EXP and GF_LOG read the tables; GF_LOG raises LOG_OF_ZERO when x = 0, gives 0 for 1,
and GF_EXP of its result gives x back. -/
def Obligations.GfExpAndGfLogReadTables : Prop :=
  (∀ (i : Byte) (s : State), decode (packWord 0x07#8 i 0#8) = .ok (.gfExp i) ∧
    exec (.gfExp i) s = .next { s with result := expTable[i.toNat]'i.isLt, done := true, cmdState := .idle } ∧
    expTable[i.toNat]'i.isLt ≠ 0#8) ∧
  expTable[0] = 1#8 ∧ expTable[255] = 1#8 ∧ expTable[8] = 29#8 ∧
  (∀ (x : Byte) (s : State), decode (packWord 0x08#8 x 0#8) = .ok (.gfLog x) ∧
    (x = 0#8 → exec (.gfLog x) s = .next { s with
      err := true, errCode := 6#4, errInfo := s.curCmd, done := true, cmdState := .idle }) ∧
    (x ≠ 0#8 → ∃ a, logOf x = some a ∧ a ≤ 254 ∧
      exec (.gfLog x) s = .next { s with result := BitVec.ofNat 8 a, done := true, cmdState := .idle } ∧
      exec (.gfExp (BitVec.ofNat 8 a)) s = .next { s with result := x, done := true, cmdState := .idle } ∧
      (x = 1#8 → a = 0) ∧ (x = 29#8 → a = 8)))

/-- R160: the field laws of the GF commands. -/
def Obligations.FieldLaws : Prop :=
  ∀ s : State, s.err = false →
    (∀ x : Byte, x ≠ 0#8 → ∃ r, gfResult (.gfInv x) s = some r ∧ gfResult (.gfMul x r) s = some 1#8) ∧
    (∀ x y : Byte, gfResult (.gfMul x y) s = gfResult (.gfMul y x) s ∧
      gfResult (.gfAdd x y) s = gfResult (.gfAdd y x) s) ∧
    (∀ x : Byte, x ≠ 0#8 → gfResult (.gfDiv x x) s = some 1#8 ∧ gfResult (.gfDiv 0#8 x) s = some 0#8) ∧
    (∀ x y : Byte, gfResult (.gfAdd x y) s = gfResult (.gfSub x y) s) ∧
    (∀ x y z : Byte, ∃ xy yz r, gfResult (.gfMul x y) s = some xy ∧ gfResult (.gfMul y z) s = some yz ∧
      gfResult (.gfMul xy z) s = some r ∧ gfResult (.gfMul x yz) s = some r) ∧
    (∀ x y z : Byte, ∃ xy xz r, gfResult (.gfMul x y) s = some xy ∧ gfResult (.gfMul x z) s = some xz ∧
      gfResult (.gfMul x (y ^^^ z)) s = some r ∧ gfResult (.gfAdd xy xz) s = some r) ∧
    (∀ x y : Byte, y ≠ 0#8 → ∃ v, gfResult (.gfInv y) s = some v ∧
      gfResult (.gfDiv x y) s = gfResult (.gfMul x v) s) ∧
    (∀ x : Byte, x ≠ 0#8 → gfResult (.gfPow x 0#8) s = some 1#8 ∧ gfResult (.gfPow x 255#8) s = some 1#8 ∧
      ∀ e : Byte, e ≠ 255#8 → ∃ p, gfResult (.gfPow x e) s = some p ∧
        gfResult (.gfPow x (e + 1#8)) s = gfResult (.gfMul p x) s)

/-- R121: each pseudo-command's expansion and its effect. -/
def Obligations.PseudoCommandEffects : Prop :=
  ∀ (x : Byte) (s : State),
    (Pseudo.gfMov x).expand = .gfAdd x 0#8 ∧ (Pseudo.gfNeg x).expand = .gfSub 0#8 x ∧
    (Pseudo.gfSqr x).expand = .gfPow x 2#8 ∧ Pseudo.gfOne.expand = .gfExp 0#8 ∧
    (Pseudo.gfAlog x).expand = .gfExp x ∧
    exec (Pseudo.gfMov x).expand s = .next { s with result := x, done := true, cmdState := .idle } ∧
    exec (Pseudo.gfNeg x).expand s = .next { s with result := x, done := true, cmdState := .idle } ∧
    (x ≠ 0#8 → exec (Pseudo.gfSqr x).expand s =
      .next { s with result := schoolMul x x, done := true, cmdState := .idle }) ∧
    exec Pseudo.gfOne.expand s = .next { s with result := 1#8, done := true, cmdState := .idle } ∧
    exec (Pseudo.gfAlog x).expand s =
      .next { s with result := double^[x.toNat] 1#8, done := true, cmdState := .idle }

/-! ### Reed–Solomon -/

/-- R181, R182: the generator has length n + 1 and leading coefficient 1 for every n, and the ROM holds
the one of degree 7. -/
def Obligations.GeneratorPolynomials : Prop :=
  (∀ n : Nat, (generatorPolynomial n).length = n + 1 ∧ (generatorPolynomial n).head? = some 1#8) ∧
  generatorPolynomial 7 = genRom.toList ∧
  genRom.toList = [1#8, 127#8, 122#8, 154#8, 164#8, 11#8, 68#8, 117#8]

/-- R184: RS_ENCODE writes the remainder of the message by GEN into CW_BUF[19..25], and nothing else. -/
def Obligations.RsEncodeWritesRemainder : Prop :=
  ∀ s : State, ∃ cw : Vector Byte 26,
    exec .rsEncode s = .next { s with cwBuf := cw, done := true, cmdState := .idle } ∧
    (∀ k : Fin 26, k.val < 19 → cw[k] = s.cwBuf[k]) ∧
    cw.toList.drop 19 = polyDivide (s.cwBuf.toList.take 19 ++ List.replicate 7 0#8) genRom.toList

/-- R185.3: the EC codewords are linear in the message. -/
def Obligations.RsEncodeIsLinear : Prop :=
  ∀ (a b : Vector Byte 26) (k : Fin 26),
    (withEc (Vector.zipWith (· ^^^ ·) a b))[k] = (withEc a)[k] ^^^ (withEc b)[k]

/-- R186: RS_SYNDROME writes SYND[j] = Σ_i CW_BUF[i] · α^(j·(25−i)), and nothing else. -/
def Obligations.RsSyndromeIsPowerSum : Prop :=
  ∀ s : State, ∃ v : Vector Byte 7,
    exec .rsSyndrome s = .next { s with synd := v, done := true, cmdState := .idle } ∧
    (∀ j : Fin 7, v[j] = powerSum s.cwBuf j) ∧ v[0] = xorSum s.cwBuf.toList

/-- R185.4, R186: after RS_ENCODE, an error `e` XORed into codeword `i` gives SYND[j] = e · α^(j·(25−i));
with `e = 0`, every syndrome of an encoded message is 0. -/
def Obligations.SyndromesLocateSingleError : Prop :=
  ∀ (s t : State) (i : Fin 26) (e : Byte), exec .rsEncode s = .next t →
    ∃ u, exec .rsSyndrome { t with cwBuf := t.cwBuf.set i (t.cwBuf[i] ^^^ e) } = .next u ∧
      ∀ j : Fin 7, u.synd[j] = gfMul e (expMod (j.val * (25 - i.val)))

/-! ### Bit-stream composer -/

/-- R210 to R219: on an accepted text COMPOSE writes MODE_INFO and CW_BUF[0..18], whose bits are the mode, the
count, the packed characters and then the padding, and leaves CW_BUF[19..25] and everything else. -/
def Obligations.ComposeWritesDataCodewords : Prop :=
  ∀ s : State, Accepted s → ∃ (cw : Vector Byte 26) (alnum : Bool),
    exec .compose s = .next { s with
      cwBuf := cw, modeAlnum := alnum, modeValid := true,
      dataBits := BitVec.ofNat 8 (closedLength s.text), done := true, cmdState := .idle } ∧
    (∀ k : Fin 26, 19 ≤ k.val → cw[k] = s.cwBuf[k]) ∧
    (alnum = false ↔ DigitText s.text) ∧
    (DigitText s.text → NumericStream s.text (bitList cw)) ∧
    (¬ DigitText s.text → AlnumStream s.text (bitList cw)) ∧
    codewordBits cw = bitList cw ∧ (bitList cw).take 152 = padBits (compose s.text)

/-- R213, R214, R219, R343: COMPOSE's errors in their priority, each with its code and information word. -/
def Obligations.ComposeErrorPriority : Prop :=
  ∀ s : State,
    (256 < s.textCount → exec .compose s = .next { s with
      err := true, errCode := 3#4, errInfo := 0#32, done := true, cmdState := .idle }) ∧
    (∀ (k : Nat) (hk : k < s.text.length), s.textCount ≤ 256 → (∀ j (hj : j < k), s.text[j] ∈ alnumSet) →
      s.text[k] ∉ alnumSet → exec .compose s = .next { s with
        err := true, errCode := 2#4, done := true, cmdState := .idle,
        errInfo := BitVec.ofNat 32 (s.text[k].toNat * 65536 + k) }) ∧
    (s.textCount ≤ 256 → ValidText s.text → 152 < closedLength s.text → exec .compose s = .next { s with
        err := true, errCode := 3#4, done := true, cmdState := .idle,
        errInfo := BitVec.ofNat 32 (closedLength s.text) })

/-- R218: the composed length by its closed forms, and the largest accepted inputs: 41 digits, 25
alphanumeric characters. -/
def Obligations.ComposedLength : Prop :=
  (∀ t : List Byte, (compose t).length = closedLength t) ∧
  (∀ t : List Byte, DigitText t → (closedLength t ≤ 152 ↔ t.length ≤ 41)) ∧
  (∀ t : List Byte, ¬ DigitText t → (closedLength t ≤ 152 ↔ t.length ≤ 25))

/-- R218: padding keeps the data, fills exactly 152 bits, and is up to 4 zeros, then zeros to a byte
boundary, then the pad bytes 11101100 and 00010001 in turn. -/
def Obligations.PaddingShape : Prop :=
  ∀ s : List Bool, s.length ≤ 152 →
    (padBits s).length = 152 ∧
    ∃ z n : Nat, padBits s = s ++ List.replicate z false ++ (List.range n).flatMap
        (fun k => if k % 2 = 0 then [true, true, true, false, true, true, false, false]
          else [false, false, false, true, false, false, false, true]) ∧
      (s.length + z) % 8 = 0 ∧ min 4 (152 - s.length) ≤ z ∧ z ≤ 11

/-- R211 to R218: nothing of the text is lost: two accepted texts with the same padded stream are equal. -/
def Obligations.ComposeIsInjective : Prop :=
  ∀ t t' : List Byte, ValidText t → ValidText t' → closedLength t ≤ 152 → closedLength t' ≤ 152 →
    padBits (compose t) = padBits (compose t') → t = t'

/-! ### Renderer -/

/-- R248, R253: 233 reserved cells and 208 others, the same set for every mask; only the 30 format cells
depend on the mask; the dark module is black. -/
def Obligations.ReservedSetIsFixed : Prop :=
  (∀ m : BitVec 3, ((List.range 441).countP fun q => (structAt m (q / 21) (q % 21)).isSome) = 233) ∧
  (∀ (m m' : BitVec 3) (r c : Nat), (structAt m r c).isSome = (structAt m' r c).isSome) ∧
  (∀ (m m' : BitVec 3) (r c : Nat), (∀ p ∈ formatCells, p.1 ≠ (r, c) ∧ p.2 ≠ (r, c)) →
    structAt m r c = structAt m' r c) ∧
  (∀ m : BitVec 3, structAt m 13 8 = some true)

/-- R250, R251, R252: RENDER writes MATRIX alone: the structural module on a reserved cell, and on the
k-th cell of ORDER the module of BITS[k] ⊕ MASKFN; no element stays unset. -/
def Obligations.RenderPlacesEveryModule : Prop :=
  ∀ (m : BitVec 3) (s : State), ∃ mat : Vector ModuleState 441,
    exec (.render m) s = .next { s with matrix := mat, done := true, cmdState := .idle } ∧
    (∀ (r c : Nat) (hr : r < 21) (hc : c < 21) (black : Bool), structAt m r c = some black →
      mat[21 * r + c]'(by omega) = if black then .reservedBlack else .reservedWhite) ∧
    (∀ q : Fin 441, mat[q] ≠ .unset) ∧
    order.length = 208 ∧
    (∀ (k r c : Nat) (hr : r < 21) (hc : c < 21), order[k]? = some (r, c) →
      structAt m r c = none ∧
      mat[21 * r + c]'(by omega) =
        if xor ((codewordBits s.cwBuf).getD k false) (maskFn m r c) then .dataBlack else .dataWhite)

/-- R252: the matrix the model computes cell by cell is the one of the spec's sequential pseudocode. -/
def Obligations.RenderEqualsPseudocode : Prop :=
  ∀ (cw : Vector Byte 26) (m : BitVec 3), render cw m = renderInOrder cw m

/-! ### Penalty -/

/-- R281: rule 1 by its maximal runs: a line that starts with a maximal run costs that run's cost and the
cost of the rest. -/
def Obligations.RunRuleByMaximalRuns : Prop :=
  lineRunCost [] = 0 ∧
  ∀ (b : Bool) (n : Nat) (rest : List Bool), 0 < n → rest.head? ≠ some b →
    lineRunCost (List.replicate n b ++ rest) = (if 5 ≤ n then 3 + (n - 5) else 0) + lineRunCost rest

/-- R280 to R284: the model's scan of rows and columns is the sum the rules give over the 42 lines, the 400
windows, the 15 positions of each line and the number of black modules. -/
def Obligations.ScoreFollowsRules : Prop :=
  ∀ k : Vector Bool 441,
    (scoreGrid k).run = overLines lineRunCost k ∧
    (scoreGrid k).block = windowCost k ∧
    (scoreGrid k).finder = finderIndexCost k ∧
    (scoreGrid k).black = (k.toList.filter id).length ∧
    (scoreGrid k).balance = balanceCost (scoreGrid k).black

/-- R284: P4 of a grid with B black modules: with lower the multiple of 5 at or below the percentage and upper
the next one, it is 10 · min(|lower/5 − 10|, |upper/5 − 10|); the percentage is the nearest integer, with no
tie; and the balance costs of the spec's examples. -/
def Obligations.BalanceRule : Prop :=
  (∀ k : Vector Bool 441, ∃ b lower upper : Nat, b = (k.toList.filter id).length ∧ b ≤ 441 ∧
    lower % 5 = 0 ∧ lower ≤ blackPercent b ∧ blackPercent b < upper ∧ upper = lower + 5 ∧
    (scoreGrid k).balance = 10 * min (Machine.dist (lower / 5) 10) (Machine.dist (upper / 5) 10)) ∧
  (∀ b : Nat, b ≤ 441 → 2 * (100 * b) < 441 * (2 * blackPercent b + 1) ∧
    441 * (2 * blackPercent b) < 2 * (100 * b) + 441) ∧
  balanceCost 0 = 90 ∧ balanceCost 196 = 10 ∧ balanceCost 197 = 0 ∧ balanceCost 220 = 0 ∧
  balanceCost 240 = 0 ∧ balanceCost 241 = 10 ∧ balanceCost 264 = 20 ∧ balanceCost 441 = 100

/-- R286: every value PENALTY computes fits its register, and the scores of the two bound cases, the all-white
and the all-black grid. -/
def Obligations.PenaltyValuesFit : Prop :=
  (∀ k : Vector Bool 441,
    (scoreGrid k).run ≤ 798 ∧ (scoreGrid k).block ≤ 1200 ∧ (scoreGrid k).finder ≤ 50400 ∧
    (scoreGrid k).balance ≤ 100 ∧ (scoreGrid k).total ≤ 52498 ∧ (scoreGrid k).black ≤ 441) ∧
  scoreGrid (Vector.replicate 441 false) = ⟨798, 1200, 0, 90, 0⟩ ∧
  scoreGrid (Vector.replicate 441 true) = ⟨798, 1200, 0, 100, 441⟩

/-- R285: PENALTY raises NOT_RENDERED(0) when an element is unset; otherwise it writes the four costs, their
sum and the number of black modules, and leaves MATRIX and everything else. After reset every element is
unset; after a RENDER, SELECT or successful ENCODE none is. -/
def Obligations.PenaltyScoresMatrix : Prop :=
  (∀ q : Fin 441, State.reset.matrix[q] = .unset) ∧
  (∀ (i : Instr) (s t : State), ((∃ m, i = .render m) ∨ i = .select ∨ i = .encode) → s.err = false →
    exec i s = .next t → t.err = false → ∀ q : Fin 441, t.matrix[q] ≠ .unset) ∧
  ∀ s : State,
    ((∃ q : Fin 441, s.matrix[q] = .unset) → exec .penalty s = .next { s with
      err := true, errCode := 8#4, errInfo := 0#32, done := true, cmdState := .idle }) ∧
    ((∀ q : Fin 441, s.matrix[q] ≠ .unset) → ∃ (r b f l t : BitVec 16) (n : BitVec 9),
      exec .penalty s = .next { s with
        penRun := r, penBlock := b, penFinder := f, penBalance := l, penTotal := t, blackCount := n,
        done := true, cmdState := .idle } ∧
      r.toNat = overLines lineRunCost (colourGrid s.matrix) ∧
      b.toNat = windowCost (colourGrid s.matrix) ∧
      f.toNat = finderIndexCost (colourGrid s.matrix) ∧
      n.toNat = ((colourGrid s.matrix).toList.filter id).length ∧
      l.toNat = balanceCost n.toNat ∧ t.toNat = r.toNat + b.toNat + f.toNat + l.toNat)

/-! ### NOP, SELECT and ENCODE -/

/-- R310: NOP writes nothing but the completion; the only NOP word is 0; issued with OVR = 0 it ends with
STATUS = 2 and the error record cleared. -/
def Obligations.NopOnlyCompletes : Prop :=
  (∀ s : State, exec .nop s = .next { s with done := true, cmdState := .idle }) ∧
  (∀ w : Word, decode w = .ok .nop ↔ w = 0#32) ∧
  (∀ s : State, s.ovr = false → ∃ t, exec .nop (latchCommand 0#32 s) = .next t ∧
    t.statusWord = 2#32 ∧ t.errInfo = 0#32)

/-- R311, R312, R313: SELECT's writes. MASK_PEN[m] is the total of mask m; BEST_PENALTY is their least and
BEST_MASK the least mask that has it; BEST is the colours of that mask's rendering; MATRIX and the PEN
registers are mask 7's; nothing else is written. -/
def Obligations.SelectKeepsFirstMinimum : Prop :=
  ∀ s : State, ∃ (best : BitVec 3) (totals : Vector (BitVec 16) 8) (r b f l t : BitVec 16) (n : BitVec 9),
    exec .select s = .next { s with
      maskPen := totals, bestMask := best, bestValid := true, bestPenalty := totals[best.toFin],
      best := colourGrid (render s.cwBuf best), matrix := render s.cwBuf 7#3,
      penRun := r, penBlock := b, penFinder := f, penBalance := l, penTotal := t, blackCount := n,
      done := true, cmdState := .idle } ∧
    (∀ m : BitVec 3, totals[m.toFin].toNat = maskTotal s.cwBuf m) ∧
    (∀ m : BitVec 3, maskTotal s.cwBuf best ≤ maskTotal s.cwBuf m) ∧
    (∀ m : BitVec 3, m.toNat < best.toNat → maskTotal s.cwBuf best < maskTotal s.cwBuf m) ∧
    r.toNat = (scoreGrid (colourGrid (render s.cwBuf 7#3))).run ∧
    b.toNat = (scoreGrid (colourGrid (render s.cwBuf 7#3))).block ∧
    f.toNat = (scoreGrid (colourGrid (render s.cwBuf 7#3))).finder ∧
    l.toNat = (scoreGrid (colourGrid (render s.cwBuf 7#3))).balance ∧
    n.toNat = (scoreGrid (colourGrid (render s.cwBuf 7#3))).black ∧
    t = totals[7]

/-- R314: when COMPOSE succeeds, ENCODE ends in the very state COMPOSE, RS_ENCODE and SELECT in turn end in; when
COMPOSE fails, ENCODE ends as it does, with the same error and nothing else written. -/
def Obligations.EncodeIsThePipeline : Prop :=
  (∀ s : State, Accepted s → ∃ t1 t2 t3,
    exec .compose s = .next t1 ∧ exec .rsEncode t1 = .next t2 ∧ exec .select t2 = .next t3 ∧
    exec .encode s = .next t3) ∧
  (∀ s : State, ¬ Accepted s → ∃ (code : BitVec 4) (info : Word), (code = 2#4 ∨ code = 3#4) ∧
    exec .encode s = .next { s with
      err := true, errCode := code, errInfo := info, done := true, cmdState := .idle } ∧
    exec .compose s = exec .encode s)

/-- R315.3, R315.4: the outcome of ENCODE is a function of TEXT_LEN and TEXT_BUF[0..n−1] alone: whether it fails,
the error's code and information, and on success everything it writes (R50). -/
def Obligations.EncodeDependsOnTextAlone : Prop :=
  ∀ s s' t t' : State, s.err = false → s'.err = false → s.textLen = s'.textLen → s.text = s'.text →
    exec .encode s = .next t → exec .encode s' = .next t' →
    t.err = t'.err ∧ t.done = t'.done ∧ t.cmdState = t'.cmdState ∧
    (t.err = true → t.errCode = t'.errCode ∧ t.errInfo = t'.errInfo) ∧
    (t.err = false →
      t.cwBuf = t'.cwBuf ∧ t.modeAlnum = t'.modeAlnum ∧ t.modeValid = t'.modeValid ∧ t.dataBits = t'.dataBits ∧
      t.matrix = t'.matrix ∧ t.penTotal = t'.penTotal ∧ t.penRun = t'.penRun ∧ t.penBlock = t'.penBlock ∧
      t.penFinder = t'.penFinder ∧ t.penBalance = t'.penBalance ∧ t.blackCount = t'.blackCount ∧
      t.maskPen = t'.maskPen ∧ t.best = t'.best ∧ t.bestMask = t'.bestMask ∧ t.bestValid = t'.bestValid ∧
      t.bestPenalty = t'.bestPenalty)

/-- R314, R315: the symbol ENCODE leaves in BEST is readable: un-masking its data cells in placement order
gives back CW_BUF, whose first 152 bits are the padded text and whose syndromes are all 0, and its
reserved cells show the structure of BEST_MASK. -/
def Obligations.EncodedSymbolReadsBack : Prop :=
  ∀ s : State, Accepted s → ∃ t, exec .encode s = .next t ∧
    (codewordBits t.cwBuf).take 152 = padBits (compose s.text) ∧
    (∀ j : Fin 7, powerSum t.cwBuf j = 0#8) ∧
    (∀ k r c : Nat, order[k]? = some (r, c) →
      xor (colourAt t.best r c) (maskFn t.bestMask r c) = (codewordBits t.cwBuf).getD k false) ∧
    ShowsStructure t.bestMask t.best

/-! ### Commands as a whole -/

/-- R118, R31: when the command in flight is due, one step is `exec` of the instruction CUR_CMD decodes to; no
transfer completes at that edge. -/
def Obligations.StepRunsDecodedCommand : Prop :=
  ∀ (s : State) (i : Instr), Due s → decode s.curCmd = .ok i → step s = exec i { s with bus := none }

/-- R115, R118: an illegal word completes with ILLEGAL_COMMAND and the whole word in ERRINFO; nothing else
changes. -/
def Obligations.IllegalWordCompletesWithError : Prop :=
  ∀ s : State, Due s → (∀ i, decode s.curCmd ≠ .ok i) → step s = .next { s with
    err := true, errCode := 1#4, errInfo := s.curCmd, done := true, cmdState := .idle, bus := none }

/-- R344, R340: errors are precise: a command either completes without touching the error record, or ends in
the state before it with only STATUS and ERRINFO changed. -/
def Obligations.ErrorsArePrecise : Prop :=
  ∀ (i : Instr) (s : State), ∃ t, exec i s = .next t ∧ t.done = true ∧ t.cmdState = .idle ∧
    ((t.err = s.err ∧ t.errCode = s.errCode ∧ t.errInfo = s.errInfo) ∨
      (1 ≤ t.errCode.toNat ∧ t.errCode.toNat ≤ 8 ∧
        t = { s with err := true, errCode := t.errCode, errInfo := t.errInfo, done := true, cmdState := .idle }))

/-- R50: the write set of every command. -/
def Obligations.WriteSets : Prop :=
  ∀ (i : Instr) (s t : State), exec i s = .next t →
    (t.irqEn = s.irqEn ∧ t.ovr = s.ovr ∧ t.textBuf = s.textBuf ∧ t.textLen = s.textLen ∧
      t.curCmd = s.curCmd ∧ t.bus = s.bus ∧ t.host = s.host ∧ t.delay = s.delay ∧ t.latency = s.latency ∧
      t.ramInit = s.ramInit ∧ t.fresh = s.fresh) ∧
    ((∀ x y, i ≠ .gfAdd x y ∧ i ≠ .gfSub x y ∧ i ≠ .gfMul x y ∧ i ≠ .gfDiv x y ∧ i ≠ .gfPow x y ∧
      i ≠ .gfInv x ∧ i ≠ .gfExp x ∧ i ≠ .gfLog x) → t.result = s.result) ∧
    (i ≠ .rsSyndrome → t.synd = s.synd) ∧
    (i ≠ .compose → i ≠ .encode → t.modeAlnum = s.modeAlnum ∧ t.modeValid = s.modeValid ∧
      t.dataBits = s.dataBits ∧ ∀ k : Fin 26, k.val < 19 → t.cwBuf[k] = s.cwBuf[k]) ∧
    (i ≠ .rsEncode → i ≠ .encode → ∀ k : Fin 26, 19 ≤ k.val → t.cwBuf[k] = s.cwBuf[k]) ∧
    ((∀ m, i ≠ .render m) → i ≠ .select → i ≠ .encode → t.matrix = s.matrix) ∧
    (i ≠ .penalty → i ≠ .select → i ≠ .encode → t.penTotal = s.penTotal ∧ t.penRun = s.penRun ∧
      t.penBlock = s.penBlock ∧ t.penFinder = s.penFinder ∧ t.penBalance = s.penBalance ∧
      t.blackCount = s.blackCount) ∧
    (i ≠ .select → i ≠ .encode → t.maskPen = s.maskPen ∧ t.best = s.best ∧ t.bestMask = s.bestMask ∧
      t.bestValid = s.bestValid ∧ t.bestPenalty = s.bestPenalty)

/-- R342: "There is no lock-up state": every state has a next state. -/
def Obligations.NoStateLocksUp : Prop := ∀ s : State, ∃ t, step s = .next t

/-- R392: with no host event to come, a command in flight completes after its latency, in exactly `delay + 1`
steps, as its completion step would at once. -/
def Obligations.CommandCompletesAfterLatency : Prop :=
  ∀ s : State, s.cmdState = .pending → s.host = [] →
    Sys2Proof.core.run (s.delay + 1) s = step { s with delay := 0 } ∧
    ∃ t, Sys2Proof.core.run (s.delay + 1) s = .next t ∧ t.done = true ∧ t.cmdState = .idle

/-- R117, R118: the host writes a legal command's word to CMD of an idle unit, with latency 1, and does not reset
the unit right after: the next two steps issue it and run it, on the state with the previous command's
record cleared. -/
def Obligations.IssueThenCompletion : Prop :=
  ∀ (s : State) (i : Instr) (rest : List HostEvent), s.cmdState = .idle → s.delay = 0 → s.latency = [] →
    s.host = .transfer 0 (.write 0x000C#14 (encode i)) :: rest → (∀ x, rest.head? ≠ some (.hwReset x)) →
    Sys2Proof.core.run 2 s = exec i { s with
      host := rest, bus := none, curCmd := encode i, cmdState := .pending, done := false, err := false,
      errCode := 0#4, errInfo := 0#32 }

/-! ### Host port -/

/-- R84: the address map is one to one: an address decodes to a target exactly when it is the target's. -/
def Obligations.AddressMapIsOneToOne : Prop :=
  ∀ (a : Addr) (t : Target), decodeAddr a = .ok t ↔ t.addr = a

/-- R82, R85: a transfer to a misaligned or unmapped address completes with bus_err = 1, a read with data 0,
and changes no state of the unit, in whatever state. -/
def Obligations.BusErrorsChangeNothing : Prop :=
  ∀ (s : State) (a : Addr) (d : Word), (∀ t : Target, t.addr ≠ a) →
    hostTransfer (.read a) s = { s with bus := some ⟨some 0#32, true⟩ } ∧
    ∃ r, hostTransfer (.write a d) s = { s with bus := some ⟨r, true⟩ } ∧
      (a.toNat % 4 ≠ 0 → r = some 0#32)

/-- R81: a host transfer with no wait cycle left, and no completion due, takes place at the next step, alone
with the tick of the latency. -/
def Obligations.StepPerformsHostTransfer : Prop :=
  ∀ (s : State) (t : Transfer) (rest : List HostEvent), ¬ Due s → s.host = .transfer 0 t :: rest →
    step s = .next (hostTransfer t { s with host := rest, bus := none, delay := s.delay - 1 })

/-- R87, R391: a read of a mapped register returns its defined value, or, while BUSY = 1 and except of ID, CTRL
and STATUS, an unspecified one (a free value); it changes nothing of the unit. -/
def Obligations.ReadsHaveNoSideEffects : Prop :=
  ∀ (s : State) (t : Target),
    sameUnit s (hostTransfer (.read t.addr) s) ∧
    (s.cmdState = .idle ∨ t = .id ∨ t = .ctrl ∨ t = .status →
      hostTransfer (.read t.addr) s = { s with bus := some ⟨some (peek s t), false⟩ }) ∧
    (s.cmdState = .pending → t ≠ .id → t ≠ .ctrl → t ≠ .status →
      hostTransfer (.read t.addr) s =
        { s with bus := some ⟨some (Config.freeWord s.fresh), false⟩, fresh := s.fresh + 1 })

/-- R33 to R49: what every register and element of the address map reads as while its value is defined, bit by
bit; reserved bits read 0. -/
def Obligations.PackedRegisterLayout : Prop :=
  ∀ s : State,
    peek s .id = 0x51524331#32 ∧ peek s .cmd = 0#32 ∧
    peek s .ctrl = BitVec.ofNat 32 (2 * s.irqEn.toNat) ∧
    peek s .status = BitVec.ofNat 32 ((if s.cmdState = .pending then 1 else 0) + 2 * s.done.toNat +
      4 * s.err.toNat + 8 * s.ovr.toNat + 256 * s.errCode.toNat) ∧
    peek s .result = BitVec.ofNat 32 s.result.toNat ∧ peek s .errInfo = s.errInfo ∧
    peek s .textLen = BitVec.ofNat 32 s.textLen.toNat ∧
    peek s .modeInfo = BitVec.ofNat 32 (s.modeAlnum.toNat + 2 * s.modeValid.toNat + 256 * s.dataBits.toNat) ∧
    peek s .penTotal = BitVec.ofNat 32 s.penTotal.toNat ∧ peek s .penRun = BitVec.ofNat 32 s.penRun.toNat ∧
    peek s .penBlock = BitVec.ofNat 32 s.penBlock.toNat ∧ peek s .penFinder = BitVec.ofNat 32 s.penFinder.toNat ∧
    peek s .penBalance = BitVec.ofNat 32 s.penBalance.toNat ∧
    peek s .blackCount = BitVec.ofNat 32 s.blackCount.toNat ∧
    peek s .bestInfo = BitVec.ofNat 32 (s.bestMask.toNat + 256 * s.bestValid.toNat) ∧
    peek s .bestPenalty = BitVec.ofNat 32 s.bestPenalty.toNat ∧
    (∀ m : Fin 8, peek s (.maskPen m) = BitVec.ofNat 32 s.maskPen[m].toNat) ∧
    (∀ j : Fin 7, peek s (.synd j) = BitVec.ofNat 32 s.synd[j].toNat) ∧
    (∀ k : Fin 8, peek s (.genRom k) = BitVec.ofNat 32 ([1, 127, 122, 154, 164, 11, 68, 117].getD k.val 0)) ∧
    (∀ i : Fin 26, peek s (.cwBuf i) = BitVec.ofNat 32 s.cwBuf[i].toNat) ∧
    (∀ i : Fin 256, peek s (.textBuf i) = BitVec.ofNat 32 s.textBuf[i].toNat) ∧
    (∀ q : Fin 441, peek s (.matrix q) = BitVec.ofNat 32 (moduleCode s.matrix[q])) ∧
    (∀ q : Fin 441, peek s (.best q) = BitVec.ofNat 32 s.best[q].toNat)

/-- R38, R39, R40, R86: an idle write to TEXT_LEN, a TEXT_BUF element or a CW_BUF element stores its low bits
there; every other register and element reads as before. -/
def Obligations.BufferWriteAndItsFrame : Prop :=
  ∀ (s : State) (t u : Target) (d : Word), s.cmdState = .idle →
    (t = .textLen ∨ (∃ i, t = .textBuf i) ∨ ∃ i, t = .cwBuf i) →
    (u ≠ t → peek (hostTransfer (.write t.addr d) s) u = peek s u) ∧
    (peek (hostTransfer (.write t.addr d) s) t).toNat = d.toNat % (if t = .textLen then 512 else 256) ∧
    (hostTransfer (.write t.addr d) s).bus = some ⟨none, false⟩

/-- R86, R390: writes that do not store. A write to a read-only or constant register has no effect, busy or
not; while a command is in flight a write to CMD, TEXT_LEN, TEXT_BUF or CW_BUF is dropped and sets OVR. -/
def Obligations.WritesThatDoNotStore : Prop :=
  ∀ (s : State) (t : Target) (d : Word),
    (t ≠ .ctrl → t ≠ .status → t ≠ .cmd → t ≠ .textLen → (∀ i, t ≠ .textBuf i) → (∀ i, t ≠ .cwBuf i) →
      hostTransfer (.write t.addr d) s = { s with bus := some ⟨none, false⟩ }) ∧
    (s.cmdState = .pending → (t = .cmd ∨ t = .textLen ∨ (∃ i, t = .textBuf i) ∨ ∃ i, t = .cwBuf i) →
      hostTransfer (.write t.addr d) s = { s with ovr := true, bus := some ⟨none, false⟩ })

/-- R117: a write to CMD of an idle unit issues the word, whatever it is: it latches it, sets BUSY, clears DONE, ERR,
ERRCODE and ERRINFO, and leaves OVR and everything else of the unit; a write to CMD while a command is in
flight is no issue. The latency drawn and the response's read data are left open. -/
def Obligations.IssueLatchesCommand : Prop :=
  ∀ (s : State) (w : Word),
    (s.cmdState = .idle → ∃ r n l, hostTransfer (.write 0x000C#14 w) s = { s with
      curCmd := w, cmdState := .pending, done := false, err := false, errCode := 0#4, errInfo := 0#32,
      delay := n, latency := l, bus := some ⟨r, false⟩ }) ∧
    (s.cmdState = .pending → ∃ r, hostTransfer (.write 0x000C#14 w) s = { s with
      ovr := true, bus := some ⟨r, false⟩ })

/-- R34, R36, R350: a write to STATUS clears DONE, ERR and OVR where the written bit is 1; a write to CTRL with
SRST = 0 sets IRQ_EN; each is accepted busy or not and changes nothing else. `irq` is DONE AND IRQ_EN. -/
def Obligations.StatusAndControlWrites : Prop :=
  ∀ (s : State) (d : Word),
    hostTransfer (.write 0x0008#14 d) s = { s with
      done := s.done && !d[1], err := s.err && !d[2], ovr := s.ovr && !d[3], bus := some ⟨none, false⟩ } ∧
    (d[0] = false →
      hostTransfer (.write 0x0004#14 d) s = { s with irqEn := d[1], bus := some ⟨none, false⟩ } ∧
      (hostTransfer (.write 0x0004#14 d) s).irq = (s.done && d[1]))

/-- R36, R390: OVR is sticky: only a host write of 1 to it, a soft reset or a hardware reset clears it; no command,
issue or other transfer does. -/
def Obligations.OvrIsSticky : Prop :=
  ∀ s t : State, step s = .next t → s.ovr = true → t.ovr = false → ∃ rest,
    (∃ d, s.host = .transfer 0 (.write 0x0008#14 d) :: rest ∧ d[3] = true) ∨
    (∃ d, s.host = .transfer 0 (.write 0x0004#14 d) :: rest ∧ d[0] = true) ∨
    (∃ x, s.host = .hwReset x :: rest)

/-! ### Reset -/

/-- R51, R380: every edge with `rst_n` = 0 sets every register to R51's value and the buffers to RAM_INIT, in
whatever state, also when a completion is due; `irq` is 0. A transfer made in that cycle completes, with a
response of which nothing is said, and has no effect; without one, none completes. -/
def Obligations.HardwareResetState : Prop :=
  ∀ (s : State) (x : Option Transfer) (rest : List HostEvent), s.host = .hwReset x :: rest →
    ∃ t, step s = .next t ∧ t.busReady = x.isSome ∧ t.irq = false ∧ t.textBuf = s.ramInit.text ∧ t.cwBuf = s.ramInit.cw ∧
      peek t .id = 0x51524331#32 ∧ peek t .ctrl = 0#32 ∧ t.irqEn = false ∧ t.statusWord = 0#32 ∧
      t.errInfo = 0#32 ∧ t.result = 0#8 ∧ t.textLen = 0#9 ∧
      peek t .modeInfo = 0#32 ∧ t.penTotal = 0#16 ∧ t.penRun = 0#16 ∧ t.penBlock = 0#16 ∧ t.penFinder = 0#16 ∧
      t.penBalance = 0#16 ∧ t.blackCount = 0#9 ∧ (∀ m : Fin 8, t.maskPen[m] = 0#16) ∧
      (∀ j : Fin 7, t.synd[j] = 0#8) ∧ peek t .bestInfo = 0#32 ∧ t.bestPenalty = 0#16 ∧
      (∀ q : Fin 441, t.matrix[q] = .unset ∧ t.best[q] = false) ∧ t.cmdState = .idle ∧ t.curCmd = 0#32

/-- R381, R34: a soft reset of an idle unit keeps TEXT_BUF and CW_BUF and resets everything else, the written
IRQ_EN being discarded. -/
def Obligations.SoftResetKeepsBuffers : Prop :=
  ∀ (s : State) (d : Word), s.cmdState = .idle → d[0] = true →
    hostTransfer (.write 0x0004#14 d) s = { State.reset with
      textBuf := s.textBuf, cwBuf := s.cwBuf, ramInit := s.ramInit, host := s.host, latency := s.latency,
      fresh := s.fresh, bus := some ⟨none, false⟩ }

/-- R382: a soft reset with a command in flight abandons it: TEXT_BUF and the CW_BUF elements it could not write
keep their values, the others hold free values, and everything else is reset. -/
def Obligations.SoftResetAbandonsCommand : Prop :=
  ∀ (s : State) (d : Word), s.cmdState = .pending → d[0] = true → ∃ cw : Vector Byte 26,
    hostTransfer (.write 0x0004#14 d) s = { State.reset with
      textBuf := s.textBuf, cwBuf := cw, ramInit := s.ramInit, host := s.host, latency := s.latency,
      fresh := s.fresh + 26, bus := some ⟨none, false⟩ } ∧
    ∀ k : Fin 26, cw[k] =
      if (k.val < 19 ∧ (decode s.curCmd = .ok .compose ∨ decode s.curCmd = .ok .encode)) ∨
        (19 ≤ k.val ∧ (decode s.curCmd = .ok .rsEncode ∨ decode s.curCmd = .ok .encode))
      then Config.freeByte (s.fresh + k.val) else s.cwBuf[k]

/-! ### The invariant -/

/-- The invariant holds of the machine right after reset. -/
def Obligations.ResetMeetsInvariant : Prop := State.reset.Inv

/-- Every step of the machine keeps the invariant, from every state that has it: a host transfer, a reset, an
issue, and the completion of every command. -/
def Obligations.EveryStepKeepsInvariant : Prop :=
  ∀ s t : State, s.Inv → step s = .next t → t.Inv
end

