-- ==== Sys2Proof/Laws/State.lean ====
section
/-! SUPPORT. What each named update of the state does to each field: the field's new value, or that it is
unchanged. Later proofs use these and unfold no record update. -/

namespace Sys2Proof.Machine

open Sys2Proof

variable (s : State)

/-! ### R118: completion without an error. -/

@[simp] theorem completeOk_irqEn : (completeOk s).irqEn = s.irqEn := rfl
@[simp] theorem completeOk_done : (completeOk s).done = true := rfl
@[simp] theorem completeOk_err : (completeOk s).err = s.err := rfl
@[simp] theorem completeOk_ovr : (completeOk s).ovr = s.ovr := rfl
@[simp] theorem completeOk_errCode : (completeOk s).errCode = s.errCode := rfl
@[simp] theorem completeOk_errInfo : (completeOk s).errInfo = s.errInfo := rfl
@[simp] theorem completeOk_textBuf : (completeOk s).textBuf = s.textBuf := rfl
@[simp] theorem completeOk_textLen : (completeOk s).textLen = s.textLen := rfl
@[simp] theorem completeOk_cwBuf : (completeOk s).cwBuf = s.cwBuf := rfl
@[simp] theorem completeOk_result : (completeOk s).result = s.result := rfl
@[simp] theorem completeOk_modeAlnum : (completeOk s).modeAlnum = s.modeAlnum := rfl
@[simp] theorem completeOk_modeValid : (completeOk s).modeValid = s.modeValid := rfl
@[simp] theorem completeOk_dataBits : (completeOk s).dataBits = s.dataBits := rfl
@[simp] theorem completeOk_penTotal : (completeOk s).penTotal = s.penTotal := rfl
@[simp] theorem completeOk_penRun : (completeOk s).penRun = s.penRun := rfl
@[simp] theorem completeOk_penBlock : (completeOk s).penBlock = s.penBlock := rfl
@[simp] theorem completeOk_penFinder : (completeOk s).penFinder = s.penFinder := rfl
@[simp] theorem completeOk_penBalance : (completeOk s).penBalance = s.penBalance := rfl
@[simp] theorem completeOk_blackCount : (completeOk s).blackCount = s.blackCount := rfl
@[simp] theorem completeOk_maskPen : (completeOk s).maskPen = s.maskPen := rfl
@[simp] theorem completeOk_synd : (completeOk s).synd = s.synd := rfl
@[simp] theorem completeOk_matrix : (completeOk s).matrix = s.matrix := rfl
@[simp] theorem completeOk_best : (completeOk s).best = s.best := rfl
@[simp] theorem completeOk_bestMask : (completeOk s).bestMask = s.bestMask := rfl
@[simp] theorem completeOk_bestValid : (completeOk s).bestValid = s.bestValid := rfl
@[simp] theorem completeOk_bestPenalty : (completeOk s).bestPenalty = s.bestPenalty := rfl
@[simp] theorem completeOk_cmdState : (completeOk s).cmdState = .idle := rfl
@[simp] theorem completeOk_curCmd : (completeOk s).curCmd = s.curCmd := rfl
@[simp] theorem completeOk_bus : (completeOk s).bus = s.bus := rfl
@[simp] theorem completeOk_host : (completeOk s).host = s.host := rfl
@[simp] theorem completeOk_delay : (completeOk s).delay = s.delay := rfl
@[simp] theorem completeOk_latency : (completeOk s).latency = s.latency := rfl
@[simp] theorem completeOk_ramInit : (completeOk s).ramInit = s.ramInit := rfl
@[simp] theorem completeOk_fresh : (completeOk s).fresh = s.fresh := rfl

/-! ### R344: completion with an error. -/

@[simp] theorem raiseError_irqEn (e : CmdError) : (raiseError e s).irqEn = s.irqEn := rfl
@[simp] theorem raiseError_done (e : CmdError) : (raiseError e s).done = true := rfl
@[simp] theorem raiseError_err (e : CmdError) : (raiseError e s).err = true := rfl
@[simp] theorem raiseError_ovr (e : CmdError) : (raiseError e s).ovr = s.ovr := rfl
@[simp] theorem raiseError_errCode (e : CmdError) : (raiseError e s).errCode = e.kind.code := rfl
@[simp] theorem raiseError_errInfo (e : CmdError) : (raiseError e s).errInfo = e.info := rfl
@[simp] theorem raiseError_textBuf (e : CmdError) : (raiseError e s).textBuf = s.textBuf := rfl
@[simp] theorem raiseError_textLen (e : CmdError) : (raiseError e s).textLen = s.textLen := rfl
@[simp] theorem raiseError_cwBuf (e : CmdError) : (raiseError e s).cwBuf = s.cwBuf := rfl
@[simp] theorem raiseError_result (e : CmdError) : (raiseError e s).result = s.result := rfl
@[simp] theorem raiseError_modeAlnum (e : CmdError) : (raiseError e s).modeAlnum = s.modeAlnum := rfl
@[simp] theorem raiseError_modeValid (e : CmdError) : (raiseError e s).modeValid = s.modeValid := rfl
@[simp] theorem raiseError_dataBits (e : CmdError) : (raiseError e s).dataBits = s.dataBits := rfl
@[simp] theorem raiseError_penTotal (e : CmdError) : (raiseError e s).penTotal = s.penTotal := rfl
@[simp] theorem raiseError_penRun (e : CmdError) : (raiseError e s).penRun = s.penRun := rfl
@[simp] theorem raiseError_penBlock (e : CmdError) : (raiseError e s).penBlock = s.penBlock := rfl
@[simp] theorem raiseError_penFinder (e : CmdError) : (raiseError e s).penFinder = s.penFinder := rfl
@[simp] theorem raiseError_penBalance (e : CmdError) : (raiseError e s).penBalance = s.penBalance := rfl
@[simp] theorem raiseError_blackCount (e : CmdError) : (raiseError e s).blackCount = s.blackCount := rfl
@[simp] theorem raiseError_maskPen (e : CmdError) : (raiseError e s).maskPen = s.maskPen := rfl
@[simp] theorem raiseError_synd (e : CmdError) : (raiseError e s).synd = s.synd := rfl
@[simp] theorem raiseError_matrix (e : CmdError) : (raiseError e s).matrix = s.matrix := rfl
@[simp] theorem raiseError_best (e : CmdError) : (raiseError e s).best = s.best := rfl
@[simp] theorem raiseError_bestMask (e : CmdError) : (raiseError e s).bestMask = s.bestMask := rfl
@[simp] theorem raiseError_bestValid (e : CmdError) : (raiseError e s).bestValid = s.bestValid := rfl
@[simp] theorem raiseError_bestPenalty (e : CmdError) : (raiseError e s).bestPenalty = s.bestPenalty := rfl
@[simp] theorem raiseError_cmdState (e : CmdError) : (raiseError e s).cmdState = .idle := rfl
@[simp] theorem raiseError_curCmd (e : CmdError) : (raiseError e s).curCmd = s.curCmd := rfl
@[simp] theorem raiseError_bus (e : CmdError) : (raiseError e s).bus = s.bus := rfl
@[simp] theorem raiseError_host (e : CmdError) : (raiseError e s).host = s.host := rfl
@[simp] theorem raiseError_delay (e : CmdError) : (raiseError e s).delay = s.delay := rfl
@[simp] theorem raiseError_latency (e : CmdError) : (raiseError e s).latency = s.latency := rfl
@[simp] theorem raiseError_ramInit (e : CmdError) : (raiseError e s).ramInit = s.ramInit := rfl
@[simp] theorem raiseError_fresh (e : CmdError) : (raiseError e s).fresh = s.fresh := rfl

/-! ### R117: issue. -/

@[simp] theorem latchCommand_irqEn (w : Word) : (latchCommand w s).irqEn = s.irqEn := rfl
@[simp] theorem latchCommand_done (w : Word) : (latchCommand w s).done = false := rfl
@[simp] theorem latchCommand_err (w : Word) : (latchCommand w s).err = false := rfl
@[simp] theorem latchCommand_ovr (w : Word) : (latchCommand w s).ovr = s.ovr := rfl
@[simp] theorem latchCommand_errCode (w : Word) : (latchCommand w s).errCode = 0#4 := rfl
@[simp] theorem latchCommand_errInfo (w : Word) : (latchCommand w s).errInfo = 0#32 := rfl
@[simp] theorem latchCommand_textBuf (w : Word) : (latchCommand w s).textBuf = s.textBuf := rfl
@[simp] theorem latchCommand_textLen (w : Word) : (latchCommand w s).textLen = s.textLen := rfl
@[simp] theorem latchCommand_cwBuf (w : Word) : (latchCommand w s).cwBuf = s.cwBuf := rfl
@[simp] theorem latchCommand_result (w : Word) : (latchCommand w s).result = s.result := rfl
@[simp] theorem latchCommand_modeAlnum (w : Word) : (latchCommand w s).modeAlnum = s.modeAlnum := rfl
@[simp] theorem latchCommand_modeValid (w : Word) : (latchCommand w s).modeValid = s.modeValid := rfl
@[simp] theorem latchCommand_dataBits (w : Word) : (latchCommand w s).dataBits = s.dataBits := rfl
@[simp] theorem latchCommand_penTotal (w : Word) : (latchCommand w s).penTotal = s.penTotal := rfl
@[simp] theorem latchCommand_penRun (w : Word) : (latchCommand w s).penRun = s.penRun := rfl
@[simp] theorem latchCommand_penBlock (w : Word) : (latchCommand w s).penBlock = s.penBlock := rfl
@[simp] theorem latchCommand_penFinder (w : Word) : (latchCommand w s).penFinder = s.penFinder := rfl
@[simp] theorem latchCommand_penBalance (w : Word) : (latchCommand w s).penBalance = s.penBalance := rfl
@[simp] theorem latchCommand_blackCount (w : Word) : (latchCommand w s).blackCount = s.blackCount := rfl
@[simp] theorem latchCommand_maskPen (w : Word) : (latchCommand w s).maskPen = s.maskPen := rfl
@[simp] theorem latchCommand_synd (w : Word) : (latchCommand w s).synd = s.synd := rfl
@[simp] theorem latchCommand_matrix (w : Word) : (latchCommand w s).matrix = s.matrix := rfl
@[simp] theorem latchCommand_best (w : Word) : (latchCommand w s).best = s.best := rfl
@[simp] theorem latchCommand_bestMask (w : Word) : (latchCommand w s).bestMask = s.bestMask := rfl
@[simp] theorem latchCommand_bestValid (w : Word) : (latchCommand w s).bestValid = s.bestValid := rfl
@[simp] theorem latchCommand_bestPenalty (w : Word) : (latchCommand w s).bestPenalty = s.bestPenalty := rfl
@[simp] theorem latchCommand_cmdState (w : Word) : (latchCommand w s).cmdState = .pending := rfl
@[simp] theorem latchCommand_curCmd (w : Word) : (latchCommand w s).curCmd = w := rfl
@[simp] theorem latchCommand_bus (w : Word) : (latchCommand w s).bus = s.bus := rfl
@[simp] theorem latchCommand_host (w : Word) : (latchCommand w s).host = s.host := rfl
@[simp] theorem latchCommand_delay (w : Word) : (latchCommand w s).delay = s.delay := rfl
@[simp] theorem latchCommand_latency (w : Word) : (latchCommand w s).latency = s.latency := rfl
@[simp] theorem latchCommand_ramInit (w : Word) : (latchCommand w s).ramInit = s.ramInit := rfl
@[simp] theorem latchCommand_fresh (w : Word) : (latchCommand w s).fresh = s.fresh := rfl

/-! ### No response on the host port. -/

@[simp] theorem quiet_irqEn : (quiet s).irqEn = s.irqEn := rfl
@[simp] theorem quiet_done : (quiet s).done = s.done := rfl
@[simp] theorem quiet_err : (quiet s).err = s.err := rfl
@[simp] theorem quiet_ovr : (quiet s).ovr = s.ovr := rfl
@[simp] theorem quiet_errCode : (quiet s).errCode = s.errCode := rfl
@[simp] theorem quiet_errInfo : (quiet s).errInfo = s.errInfo := rfl
@[simp] theorem quiet_textBuf : (quiet s).textBuf = s.textBuf := rfl
@[simp] theorem quiet_textLen : (quiet s).textLen = s.textLen := rfl
@[simp] theorem quiet_cwBuf : (quiet s).cwBuf = s.cwBuf := rfl
@[simp] theorem quiet_result : (quiet s).result = s.result := rfl
@[simp] theorem quiet_modeAlnum : (quiet s).modeAlnum = s.modeAlnum := rfl
@[simp] theorem quiet_modeValid : (quiet s).modeValid = s.modeValid := rfl
@[simp] theorem quiet_dataBits : (quiet s).dataBits = s.dataBits := rfl
@[simp] theorem quiet_penTotal : (quiet s).penTotal = s.penTotal := rfl
@[simp] theorem quiet_penRun : (quiet s).penRun = s.penRun := rfl
@[simp] theorem quiet_penBlock : (quiet s).penBlock = s.penBlock := rfl
@[simp] theorem quiet_penFinder : (quiet s).penFinder = s.penFinder := rfl
@[simp] theorem quiet_penBalance : (quiet s).penBalance = s.penBalance := rfl
@[simp] theorem quiet_blackCount : (quiet s).blackCount = s.blackCount := rfl
@[simp] theorem quiet_maskPen : (quiet s).maskPen = s.maskPen := rfl
@[simp] theorem quiet_synd : (quiet s).synd = s.synd := rfl
@[simp] theorem quiet_matrix : (quiet s).matrix = s.matrix := rfl
@[simp] theorem quiet_best : (quiet s).best = s.best := rfl
@[simp] theorem quiet_bestMask : (quiet s).bestMask = s.bestMask := rfl
@[simp] theorem quiet_bestValid : (quiet s).bestValid = s.bestValid := rfl
@[simp] theorem quiet_bestPenalty : (quiet s).bestPenalty = s.bestPenalty := rfl
@[simp] theorem quiet_cmdState : (quiet s).cmdState = s.cmdState := rfl
@[simp] theorem quiet_curCmd : (quiet s).curCmd = s.curCmd := rfl
@[simp] theorem quiet_bus : (quiet s).bus = none := rfl
@[simp] theorem quiet_host : (quiet s).host = s.host := rfl
@[simp] theorem quiet_delay : (quiet s).delay = s.delay := rfl
@[simp] theorem quiet_latency : (quiet s).latency = s.latency := rfl
@[simp] theorem quiet_ramInit : (quiet s).ramInit = s.ramInit := rfl
@[simp] theorem quiet_fresh : (quiet s).fresh = s.fresh := rfl

/-! ### R392: one edge of the latency. -/

@[simp] theorem tick_irqEn : (tick s).irqEn = s.irqEn := rfl
@[simp] theorem tick_done : (tick s).done = s.done := rfl
@[simp] theorem tick_err : (tick s).err = s.err := rfl
@[simp] theorem tick_ovr : (tick s).ovr = s.ovr := rfl
@[simp] theorem tick_errCode : (tick s).errCode = s.errCode := rfl
@[simp] theorem tick_errInfo : (tick s).errInfo = s.errInfo := rfl
@[simp] theorem tick_textBuf : (tick s).textBuf = s.textBuf := rfl
@[simp] theorem tick_textLen : (tick s).textLen = s.textLen := rfl
@[simp] theorem tick_cwBuf : (tick s).cwBuf = s.cwBuf := rfl
@[simp] theorem tick_result : (tick s).result = s.result := rfl
@[simp] theorem tick_modeAlnum : (tick s).modeAlnum = s.modeAlnum := rfl
@[simp] theorem tick_modeValid : (tick s).modeValid = s.modeValid := rfl
@[simp] theorem tick_dataBits : (tick s).dataBits = s.dataBits := rfl
@[simp] theorem tick_penTotal : (tick s).penTotal = s.penTotal := rfl
@[simp] theorem tick_penRun : (tick s).penRun = s.penRun := rfl
@[simp] theorem tick_penBlock : (tick s).penBlock = s.penBlock := rfl
@[simp] theorem tick_penFinder : (tick s).penFinder = s.penFinder := rfl
@[simp] theorem tick_penBalance : (tick s).penBalance = s.penBalance := rfl
@[simp] theorem tick_blackCount : (tick s).blackCount = s.blackCount := rfl
@[simp] theorem tick_maskPen : (tick s).maskPen = s.maskPen := rfl
@[simp] theorem tick_synd : (tick s).synd = s.synd := rfl
@[simp] theorem tick_matrix : (tick s).matrix = s.matrix := rfl
@[simp] theorem tick_best : (tick s).best = s.best := rfl
@[simp] theorem tick_bestMask : (tick s).bestMask = s.bestMask := rfl
@[simp] theorem tick_bestValid : (tick s).bestValid = s.bestValid := rfl
@[simp] theorem tick_bestPenalty : (tick s).bestPenalty = s.bestPenalty := rfl
@[simp] theorem tick_cmdState : (tick s).cmdState = s.cmdState := rfl
@[simp] theorem tick_curCmd : (tick s).curCmd = s.curCmd := rfl
@[simp] theorem tick_bus : (tick s).bus = s.bus := rfl
@[simp] theorem tick_host : (tick s).host = s.host := rfl
@[simp] theorem tick_delay : (tick s).delay = s.delay - 1 := rfl
@[simp] theorem tick_latency : (tick s).latency = s.latency := rfl
@[simp] theorem tick_ramInit : (tick s).ramInit = s.ramInit := rfl
@[simp] theorem tick_fresh : (tick s).fresh = s.fresh := rfl

/-! ### R80: a response on the host port. -/

@[simp] theorem respond_irqEn (r : BusResponse) : (respond r s).irqEn = s.irqEn := rfl
@[simp] theorem respond_done (r : BusResponse) : (respond r s).done = s.done := rfl
@[simp] theorem respond_err (r : BusResponse) : (respond r s).err = s.err := rfl
@[simp] theorem respond_ovr (r : BusResponse) : (respond r s).ovr = s.ovr := rfl
@[simp] theorem respond_errCode (r : BusResponse) : (respond r s).errCode = s.errCode := rfl
@[simp] theorem respond_errInfo (r : BusResponse) : (respond r s).errInfo = s.errInfo := rfl
@[simp] theorem respond_textBuf (r : BusResponse) : (respond r s).textBuf = s.textBuf := rfl
@[simp] theorem respond_textLen (r : BusResponse) : (respond r s).textLen = s.textLen := rfl
@[simp] theorem respond_cwBuf (r : BusResponse) : (respond r s).cwBuf = s.cwBuf := rfl
@[simp] theorem respond_result (r : BusResponse) : (respond r s).result = s.result := rfl
@[simp] theorem respond_modeAlnum (r : BusResponse) : (respond r s).modeAlnum = s.modeAlnum := rfl
@[simp] theorem respond_modeValid (r : BusResponse) : (respond r s).modeValid = s.modeValid := rfl
@[simp] theorem respond_dataBits (r : BusResponse) : (respond r s).dataBits = s.dataBits := rfl
@[simp] theorem respond_penTotal (r : BusResponse) : (respond r s).penTotal = s.penTotal := rfl
@[simp] theorem respond_penRun (r : BusResponse) : (respond r s).penRun = s.penRun := rfl
@[simp] theorem respond_penBlock (r : BusResponse) : (respond r s).penBlock = s.penBlock := rfl
@[simp] theorem respond_penFinder (r : BusResponse) : (respond r s).penFinder = s.penFinder := rfl
@[simp] theorem respond_penBalance (r : BusResponse) : (respond r s).penBalance = s.penBalance := rfl
@[simp] theorem respond_blackCount (r : BusResponse) : (respond r s).blackCount = s.blackCount := rfl
@[simp] theorem respond_maskPen (r : BusResponse) : (respond r s).maskPen = s.maskPen := rfl
@[simp] theorem respond_synd (r : BusResponse) : (respond r s).synd = s.synd := rfl
@[simp] theorem respond_matrix (r : BusResponse) : (respond r s).matrix = s.matrix := rfl
@[simp] theorem respond_best (r : BusResponse) : (respond r s).best = s.best := rfl
@[simp] theorem respond_bestMask (r : BusResponse) : (respond r s).bestMask = s.bestMask := rfl
@[simp] theorem respond_bestValid (r : BusResponse) : (respond r s).bestValid = s.bestValid := rfl
@[simp] theorem respond_bestPenalty (r : BusResponse) : (respond r s).bestPenalty = s.bestPenalty := rfl
@[simp] theorem respond_cmdState (r : BusResponse) : (respond r s).cmdState = s.cmdState := rfl
@[simp] theorem respond_curCmd (r : BusResponse) : (respond r s).curCmd = s.curCmd := rfl
@[simp] theorem respond_bus (r : BusResponse) : (respond r s).bus = some r := rfl
@[simp] theorem respond_host (r : BusResponse) : (respond r s).host = s.host := rfl
@[simp] theorem respond_delay (r : BusResponse) : (respond r s).delay = s.delay := rfl
@[simp] theorem respond_latency (r : BusResponse) : (respond r s).latency = s.latency := rfl
@[simp] theorem respond_ramInit (r : BusResponse) : (respond r s).ramInit = s.ramInit := rfl
@[simp] theorem respond_fresh (r : BusResponse) : (respond r s).fresh = s.fresh := rfl

/-! ### R36: a write to STATUS. -/

@[simp] theorem clearStatus_irqEn (d : Word) : (s.clearStatus d).irqEn = s.irqEn := rfl
@[simp] theorem clearStatus_done (d : Word) : (s.clearStatus d).done = (s.done && !d.getLsbD 1) := rfl
@[simp] theorem clearStatus_err (d : Word) : (s.clearStatus d).err = (s.err && !d.getLsbD 2) := rfl
@[simp] theorem clearStatus_ovr (d : Word) : (s.clearStatus d).ovr = (s.ovr && !d.getLsbD 3) := rfl
@[simp] theorem clearStatus_errCode (d : Word) : (s.clearStatus d).errCode = s.errCode := rfl
@[simp] theorem clearStatus_errInfo (d : Word) : (s.clearStatus d).errInfo = s.errInfo := rfl
@[simp] theorem clearStatus_textBuf (d : Word) : (s.clearStatus d).textBuf = s.textBuf := rfl
@[simp] theorem clearStatus_textLen (d : Word) : (s.clearStatus d).textLen = s.textLen := rfl
@[simp] theorem clearStatus_cwBuf (d : Word) : (s.clearStatus d).cwBuf = s.cwBuf := rfl
@[simp] theorem clearStatus_result (d : Word) : (s.clearStatus d).result = s.result := rfl
@[simp] theorem clearStatus_modeAlnum (d : Word) : (s.clearStatus d).modeAlnum = s.modeAlnum := rfl
@[simp] theorem clearStatus_modeValid (d : Word) : (s.clearStatus d).modeValid = s.modeValid := rfl
@[simp] theorem clearStatus_dataBits (d : Word) : (s.clearStatus d).dataBits = s.dataBits := rfl
@[simp] theorem clearStatus_penTotal (d : Word) : (s.clearStatus d).penTotal = s.penTotal := rfl
@[simp] theorem clearStatus_penRun (d : Word) : (s.clearStatus d).penRun = s.penRun := rfl
@[simp] theorem clearStatus_penBlock (d : Word) : (s.clearStatus d).penBlock = s.penBlock := rfl
@[simp] theorem clearStatus_penFinder (d : Word) : (s.clearStatus d).penFinder = s.penFinder := rfl
@[simp] theorem clearStatus_penBalance (d : Word) : (s.clearStatus d).penBalance = s.penBalance := rfl
@[simp] theorem clearStatus_blackCount (d : Word) : (s.clearStatus d).blackCount = s.blackCount := rfl
@[simp] theorem clearStatus_maskPen (d : Word) : (s.clearStatus d).maskPen = s.maskPen := rfl
@[simp] theorem clearStatus_synd (d : Word) : (s.clearStatus d).synd = s.synd := rfl
@[simp] theorem clearStatus_matrix (d : Word) : (s.clearStatus d).matrix = s.matrix := rfl
@[simp] theorem clearStatus_best (d : Word) : (s.clearStatus d).best = s.best := rfl
@[simp] theorem clearStatus_bestMask (d : Word) : (s.clearStatus d).bestMask = s.bestMask := rfl
@[simp] theorem clearStatus_bestValid (d : Word) : (s.clearStatus d).bestValid = s.bestValid := rfl
@[simp] theorem clearStatus_bestPenalty (d : Word) : (s.clearStatus d).bestPenalty = s.bestPenalty := rfl
@[simp] theorem clearStatus_cmdState (d : Word) : (s.clearStatus d).cmdState = s.cmdState := rfl
@[simp] theorem clearStatus_curCmd (d : Word) : (s.clearStatus d).curCmd = s.curCmd := rfl
@[simp] theorem clearStatus_bus (d : Word) : (s.clearStatus d).bus = s.bus := rfl
@[simp] theorem clearStatus_host (d : Word) : (s.clearStatus d).host = s.host := rfl
@[simp] theorem clearStatus_delay (d : Word) : (s.clearStatus d).delay = s.delay := rfl
@[simp] theorem clearStatus_latency (d : Word) : (s.clearStatus d).latency = s.latency := rfl
@[simp] theorem clearStatus_ramInit (d : Word) : (s.clearStatus d).ramInit = s.ramInit := rfl
@[simp] theorem clearStatus_fresh (d : Word) : (s.clearStatus d).fresh = s.fresh := rfl

/-! ### R34: a write to CTRL with SRST = 0. -/

@[simp] theorem setIrqEn_irqEn (d : Word) : (s.setIrqEn d).irqEn = d.getLsbD 1 := rfl
@[simp] theorem setIrqEn_done (d : Word) : (s.setIrqEn d).done = s.done := rfl
@[simp] theorem setIrqEn_err (d : Word) : (s.setIrqEn d).err = s.err := rfl
@[simp] theorem setIrqEn_ovr (d : Word) : (s.setIrqEn d).ovr = s.ovr := rfl
@[simp] theorem setIrqEn_errCode (d : Word) : (s.setIrqEn d).errCode = s.errCode := rfl
@[simp] theorem setIrqEn_errInfo (d : Word) : (s.setIrqEn d).errInfo = s.errInfo := rfl
@[simp] theorem setIrqEn_textBuf (d : Word) : (s.setIrqEn d).textBuf = s.textBuf := rfl
@[simp] theorem setIrqEn_textLen (d : Word) : (s.setIrqEn d).textLen = s.textLen := rfl
@[simp] theorem setIrqEn_cwBuf (d : Word) : (s.setIrqEn d).cwBuf = s.cwBuf := rfl
@[simp] theorem setIrqEn_result (d : Word) : (s.setIrqEn d).result = s.result := rfl
@[simp] theorem setIrqEn_modeAlnum (d : Word) : (s.setIrqEn d).modeAlnum = s.modeAlnum := rfl
@[simp] theorem setIrqEn_modeValid (d : Word) : (s.setIrqEn d).modeValid = s.modeValid := rfl
@[simp] theorem setIrqEn_dataBits (d : Word) : (s.setIrqEn d).dataBits = s.dataBits := rfl
@[simp] theorem setIrqEn_penTotal (d : Word) : (s.setIrqEn d).penTotal = s.penTotal := rfl
@[simp] theorem setIrqEn_penRun (d : Word) : (s.setIrqEn d).penRun = s.penRun := rfl
@[simp] theorem setIrqEn_penBlock (d : Word) : (s.setIrqEn d).penBlock = s.penBlock := rfl
@[simp] theorem setIrqEn_penFinder (d : Word) : (s.setIrqEn d).penFinder = s.penFinder := rfl
@[simp] theorem setIrqEn_penBalance (d : Word) : (s.setIrqEn d).penBalance = s.penBalance := rfl
@[simp] theorem setIrqEn_blackCount (d : Word) : (s.setIrqEn d).blackCount = s.blackCount := rfl
@[simp] theorem setIrqEn_maskPen (d : Word) : (s.setIrqEn d).maskPen = s.maskPen := rfl
@[simp] theorem setIrqEn_synd (d : Word) : (s.setIrqEn d).synd = s.synd := rfl
@[simp] theorem setIrqEn_matrix (d : Word) : (s.setIrqEn d).matrix = s.matrix := rfl
@[simp] theorem setIrqEn_best (d : Word) : (s.setIrqEn d).best = s.best := rfl
@[simp] theorem setIrqEn_bestMask (d : Word) : (s.setIrqEn d).bestMask = s.bestMask := rfl
@[simp] theorem setIrqEn_bestValid (d : Word) : (s.setIrqEn d).bestValid = s.bestValid := rfl
@[simp] theorem setIrqEn_bestPenalty (d : Word) : (s.setIrqEn d).bestPenalty = s.bestPenalty := rfl
@[simp] theorem setIrqEn_cmdState (d : Word) : (s.setIrqEn d).cmdState = s.cmdState := rfl
@[simp] theorem setIrqEn_curCmd (d : Word) : (s.setIrqEn d).curCmd = s.curCmd := rfl
@[simp] theorem setIrqEn_bus (d : Word) : (s.setIrqEn d).bus = s.bus := rfl
@[simp] theorem setIrqEn_host (d : Word) : (s.setIrqEn d).host = s.host := rfl
@[simp] theorem setIrqEn_delay (d : Word) : (s.setIrqEn d).delay = s.delay := rfl
@[simp] theorem setIrqEn_latency (d : Word) : (s.setIrqEn d).latency = s.latency := rfl
@[simp] theorem setIrqEn_ramInit (d : Word) : (s.setIrqEn d).ramInit = s.ramInit := rfl
@[simp] theorem setIrqEn_fresh (d : Word) : (s.setIrqEn d).fresh = s.fresh := rfl

/-! ### R42: a GF command's write. -/

@[simp] theorem setResult_irqEn (r : Byte) : (setResult r s).irqEn = s.irqEn := rfl
@[simp] theorem setResult_done (r : Byte) : (setResult r s).done = s.done := rfl
@[simp] theorem setResult_err (r : Byte) : (setResult r s).err = s.err := rfl
@[simp] theorem setResult_ovr (r : Byte) : (setResult r s).ovr = s.ovr := rfl
@[simp] theorem setResult_errCode (r : Byte) : (setResult r s).errCode = s.errCode := rfl
@[simp] theorem setResult_errInfo (r : Byte) : (setResult r s).errInfo = s.errInfo := rfl
@[simp] theorem setResult_textBuf (r : Byte) : (setResult r s).textBuf = s.textBuf := rfl
@[simp] theorem setResult_textLen (r : Byte) : (setResult r s).textLen = s.textLen := rfl
@[simp] theorem setResult_cwBuf (r : Byte) : (setResult r s).cwBuf = s.cwBuf := rfl
@[simp] theorem setResult_result (r : Byte) : (setResult r s).result = r := rfl
@[simp] theorem setResult_modeAlnum (r : Byte) : (setResult r s).modeAlnum = s.modeAlnum := rfl
@[simp] theorem setResult_modeValid (r : Byte) : (setResult r s).modeValid = s.modeValid := rfl
@[simp] theorem setResult_dataBits (r : Byte) : (setResult r s).dataBits = s.dataBits := rfl
@[simp] theorem setResult_penTotal (r : Byte) : (setResult r s).penTotal = s.penTotal := rfl
@[simp] theorem setResult_penRun (r : Byte) : (setResult r s).penRun = s.penRun := rfl
@[simp] theorem setResult_penBlock (r : Byte) : (setResult r s).penBlock = s.penBlock := rfl
@[simp] theorem setResult_penFinder (r : Byte) : (setResult r s).penFinder = s.penFinder := rfl
@[simp] theorem setResult_penBalance (r : Byte) : (setResult r s).penBalance = s.penBalance := rfl
@[simp] theorem setResult_blackCount (r : Byte) : (setResult r s).blackCount = s.blackCount := rfl
@[simp] theorem setResult_maskPen (r : Byte) : (setResult r s).maskPen = s.maskPen := rfl
@[simp] theorem setResult_synd (r : Byte) : (setResult r s).synd = s.synd := rfl
@[simp] theorem setResult_matrix (r : Byte) : (setResult r s).matrix = s.matrix := rfl
@[simp] theorem setResult_best (r : Byte) : (setResult r s).best = s.best := rfl
@[simp] theorem setResult_bestMask (r : Byte) : (setResult r s).bestMask = s.bestMask := rfl
@[simp] theorem setResult_bestValid (r : Byte) : (setResult r s).bestValid = s.bestValid := rfl
@[simp] theorem setResult_bestPenalty (r : Byte) : (setResult r s).bestPenalty = s.bestPenalty := rfl
@[simp] theorem setResult_cmdState (r : Byte) : (setResult r s).cmdState = s.cmdState := rfl
@[simp] theorem setResult_curCmd (r : Byte) : (setResult r s).curCmd = s.curCmd := rfl
@[simp] theorem setResult_bus (r : Byte) : (setResult r s).bus = s.bus := rfl
@[simp] theorem setResult_host (r : Byte) : (setResult r s).host = s.host := rfl
@[simp] theorem setResult_delay (r : Byte) : (setResult r s).delay = s.delay := rfl
@[simp] theorem setResult_latency (r : Byte) : (setResult r s).latency = s.latency := rfl
@[simp] theorem setResult_ramInit (r : Byte) : (setResult r s).ramInit = s.ramInit := rfl
@[simp] theorem setResult_fresh (r : Byte) : (setResult r s).fresh = s.fresh := rfl

/-! ### R184: RS_ENCODE's write. -/

@[simp] theorem performRsEncode_irqEn : (performRsEncode s).irqEn = s.irqEn := rfl
@[simp] theorem performRsEncode_done : (performRsEncode s).done = s.done := rfl
@[simp] theorem performRsEncode_err : (performRsEncode s).err = s.err := rfl
@[simp] theorem performRsEncode_ovr : (performRsEncode s).ovr = s.ovr := rfl
@[simp] theorem performRsEncode_errCode : (performRsEncode s).errCode = s.errCode := rfl
@[simp] theorem performRsEncode_errInfo : (performRsEncode s).errInfo = s.errInfo := rfl
@[simp] theorem performRsEncode_textBuf : (performRsEncode s).textBuf = s.textBuf := rfl
@[simp] theorem performRsEncode_textLen : (performRsEncode s).textLen = s.textLen := rfl
@[simp] theorem performRsEncode_cwBuf : (performRsEncode s).cwBuf = withEc s.cwBuf := rfl
@[simp] theorem performRsEncode_result : (performRsEncode s).result = s.result := rfl
@[simp] theorem performRsEncode_modeAlnum : (performRsEncode s).modeAlnum = s.modeAlnum := rfl
@[simp] theorem performRsEncode_modeValid : (performRsEncode s).modeValid = s.modeValid := rfl
@[simp] theorem performRsEncode_dataBits : (performRsEncode s).dataBits = s.dataBits := rfl
@[simp] theorem performRsEncode_penTotal : (performRsEncode s).penTotal = s.penTotal := rfl
@[simp] theorem performRsEncode_penRun : (performRsEncode s).penRun = s.penRun := rfl
@[simp] theorem performRsEncode_penBlock : (performRsEncode s).penBlock = s.penBlock := rfl
@[simp] theorem performRsEncode_penFinder : (performRsEncode s).penFinder = s.penFinder := rfl
@[simp] theorem performRsEncode_penBalance : (performRsEncode s).penBalance = s.penBalance := rfl
@[simp] theorem performRsEncode_blackCount : (performRsEncode s).blackCount = s.blackCount := rfl
@[simp] theorem performRsEncode_maskPen : (performRsEncode s).maskPen = s.maskPen := rfl
@[simp] theorem performRsEncode_synd : (performRsEncode s).synd = s.synd := rfl
@[simp] theorem performRsEncode_matrix : (performRsEncode s).matrix = s.matrix := rfl
@[simp] theorem performRsEncode_best : (performRsEncode s).best = s.best := rfl
@[simp] theorem performRsEncode_bestMask : (performRsEncode s).bestMask = s.bestMask := rfl
@[simp] theorem performRsEncode_bestValid : (performRsEncode s).bestValid = s.bestValid := rfl
@[simp] theorem performRsEncode_bestPenalty : (performRsEncode s).bestPenalty = s.bestPenalty := rfl
@[simp] theorem performRsEncode_cmdState : (performRsEncode s).cmdState = s.cmdState := rfl
@[simp] theorem performRsEncode_curCmd : (performRsEncode s).curCmd = s.curCmd := rfl
@[simp] theorem performRsEncode_bus : (performRsEncode s).bus = s.bus := rfl
@[simp] theorem performRsEncode_host : (performRsEncode s).host = s.host := rfl
@[simp] theorem performRsEncode_delay : (performRsEncode s).delay = s.delay := rfl
@[simp] theorem performRsEncode_latency : (performRsEncode s).latency = s.latency := rfl
@[simp] theorem performRsEncode_ramInit : (performRsEncode s).ramInit = s.ramInit := rfl
@[simp] theorem performRsEncode_fresh : (performRsEncode s).fresh = s.fresh := rfl

/-! ### R186: RS_SYNDROME's write. -/

@[simp] theorem performRsSyndrome_irqEn : (performRsSyndrome s).irqEn = s.irqEn := rfl
@[simp] theorem performRsSyndrome_done : (performRsSyndrome s).done = s.done := rfl
@[simp] theorem performRsSyndrome_err : (performRsSyndrome s).err = s.err := rfl
@[simp] theorem performRsSyndrome_ovr : (performRsSyndrome s).ovr = s.ovr := rfl
@[simp] theorem performRsSyndrome_errCode : (performRsSyndrome s).errCode = s.errCode := rfl
@[simp] theorem performRsSyndrome_errInfo : (performRsSyndrome s).errInfo = s.errInfo := rfl
@[simp] theorem performRsSyndrome_textBuf : (performRsSyndrome s).textBuf = s.textBuf := rfl
@[simp] theorem performRsSyndrome_textLen : (performRsSyndrome s).textLen = s.textLen := rfl
@[simp] theorem performRsSyndrome_cwBuf : (performRsSyndrome s).cwBuf = s.cwBuf := rfl
@[simp] theorem performRsSyndrome_result : (performRsSyndrome s).result = s.result := rfl
@[simp] theorem performRsSyndrome_modeAlnum : (performRsSyndrome s).modeAlnum = s.modeAlnum := rfl
@[simp] theorem performRsSyndrome_modeValid : (performRsSyndrome s).modeValid = s.modeValid := rfl
@[simp] theorem performRsSyndrome_dataBits : (performRsSyndrome s).dataBits = s.dataBits := rfl
@[simp] theorem performRsSyndrome_penTotal : (performRsSyndrome s).penTotal = s.penTotal := rfl
@[simp] theorem performRsSyndrome_penRun : (performRsSyndrome s).penRun = s.penRun := rfl
@[simp] theorem performRsSyndrome_penBlock : (performRsSyndrome s).penBlock = s.penBlock := rfl
@[simp] theorem performRsSyndrome_penFinder : (performRsSyndrome s).penFinder = s.penFinder := rfl
@[simp] theorem performRsSyndrome_penBalance : (performRsSyndrome s).penBalance = s.penBalance := rfl
@[simp] theorem performRsSyndrome_blackCount : (performRsSyndrome s).blackCount = s.blackCount := rfl
@[simp] theorem performRsSyndrome_maskPen : (performRsSyndrome s).maskPen = s.maskPen := rfl
@[simp] theorem performRsSyndrome_synd : (performRsSyndrome s).synd = tabulate fun j => syndrome s.cwBuf j := rfl
@[simp] theorem performRsSyndrome_matrix : (performRsSyndrome s).matrix = s.matrix := rfl
@[simp] theorem performRsSyndrome_best : (performRsSyndrome s).best = s.best := rfl
@[simp] theorem performRsSyndrome_bestMask : (performRsSyndrome s).bestMask = s.bestMask := rfl
@[simp] theorem performRsSyndrome_bestValid : (performRsSyndrome s).bestValid = s.bestValid := rfl
@[simp] theorem performRsSyndrome_bestPenalty : (performRsSyndrome s).bestPenalty = s.bestPenalty := rfl
@[simp] theorem performRsSyndrome_cmdState : (performRsSyndrome s).cmdState = s.cmdState := rfl
@[simp] theorem performRsSyndrome_curCmd : (performRsSyndrome s).curCmd = s.curCmd := rfl
@[simp] theorem performRsSyndrome_bus : (performRsSyndrome s).bus = s.bus := rfl
@[simp] theorem performRsSyndrome_host : (performRsSyndrome s).host = s.host := rfl
@[simp] theorem performRsSyndrome_delay : (performRsSyndrome s).delay = s.delay := rfl
@[simp] theorem performRsSyndrome_latency : (performRsSyndrome s).latency = s.latency := rfl
@[simp] theorem performRsSyndrome_ramInit : (performRsSyndrome s).ramInit = s.ramInit := rfl
@[simp] theorem performRsSyndrome_fresh : (performRsSyndrome s).fresh = s.fresh := rfl

/-! ### R219: COMPOSE's writes. -/

@[simp] theorem setComposed_irqEn (t : List Byte) : (setComposed t s).irqEn = s.irqEn := rfl
@[simp] theorem setComposed_done (t : List Byte) : (setComposed t s).done = s.done := rfl
@[simp] theorem setComposed_err (t : List Byte) : (setComposed t s).err = s.err := rfl
@[simp] theorem setComposed_ovr (t : List Byte) : (setComposed t s).ovr = s.ovr := rfl
@[simp] theorem setComposed_errCode (t : List Byte) : (setComposed t s).errCode = s.errCode := rfl
@[simp] theorem setComposed_errInfo (t : List Byte) : (setComposed t s).errInfo = s.errInfo := rfl
@[simp] theorem setComposed_textBuf (t : List Byte) : (setComposed t s).textBuf = s.textBuf := rfl
@[simp] theorem setComposed_textLen (t : List Byte) : (setComposed t s).textLen = s.textLen := rfl
@[simp] theorem setComposed_cwBuf (t : List Byte) :
    (setComposed t s).cwBuf = withData (padBits (compose t)) s.cwBuf := rfl
@[simp] theorem setComposed_result (t : List Byte) : (setComposed t s).result = s.result := rfl
@[simp] theorem setComposed_modeAlnum (t : List Byte) : (setComposed t s).modeAlnum = isAlnumText t := rfl
@[simp] theorem setComposed_modeValid (t : List Byte) : (setComposed t s).modeValid = true := rfl
@[simp] theorem setComposed_dataBits (t : List Byte) :
    (setComposed t s).dataBits = BitVec.ofNat 8 (compose t).length := rfl
@[simp] theorem setComposed_penTotal (t : List Byte) : (setComposed t s).penTotal = s.penTotal := rfl
@[simp] theorem setComposed_penRun (t : List Byte) : (setComposed t s).penRun = s.penRun := rfl
@[simp] theorem setComposed_penBlock (t : List Byte) : (setComposed t s).penBlock = s.penBlock := rfl
@[simp] theorem setComposed_penFinder (t : List Byte) : (setComposed t s).penFinder = s.penFinder := rfl
@[simp] theorem setComposed_penBalance (t : List Byte) : (setComposed t s).penBalance = s.penBalance := rfl
@[simp] theorem setComposed_blackCount (t : List Byte) : (setComposed t s).blackCount = s.blackCount := rfl
@[simp] theorem setComposed_maskPen (t : List Byte) : (setComposed t s).maskPen = s.maskPen := rfl
@[simp] theorem setComposed_synd (t : List Byte) : (setComposed t s).synd = s.synd := rfl
@[simp] theorem setComposed_matrix (t : List Byte) : (setComposed t s).matrix = s.matrix := rfl
@[simp] theorem setComposed_best (t : List Byte) : (setComposed t s).best = s.best := rfl
@[simp] theorem setComposed_bestMask (t : List Byte) : (setComposed t s).bestMask = s.bestMask := rfl
@[simp] theorem setComposed_bestValid (t : List Byte) : (setComposed t s).bestValid = s.bestValid := rfl
@[simp] theorem setComposed_bestPenalty (t : List Byte) : (setComposed t s).bestPenalty = s.bestPenalty := rfl
@[simp] theorem setComposed_cmdState (t : List Byte) : (setComposed t s).cmdState = s.cmdState := rfl
@[simp] theorem setComposed_curCmd (t : List Byte) : (setComposed t s).curCmd = s.curCmd := rfl
@[simp] theorem setComposed_bus (t : List Byte) : (setComposed t s).bus = s.bus := rfl
@[simp] theorem setComposed_host (t : List Byte) : (setComposed t s).host = s.host := rfl
@[simp] theorem setComposed_delay (t : List Byte) : (setComposed t s).delay = s.delay := rfl
@[simp] theorem setComposed_latency (t : List Byte) : (setComposed t s).latency = s.latency := rfl
@[simp] theorem setComposed_ramInit (t : List Byte) : (setComposed t s).ramInit = s.ramInit := rfl
@[simp] theorem setComposed_fresh (t : List Byte) : (setComposed t s).fresh = s.fresh := rfl

/-! ### R252: RENDER's write. -/

@[simp] theorem performRender_irqEn (m : BitVec 3) : (performRender m s).irqEn = s.irqEn := rfl
@[simp] theorem performRender_done (m : BitVec 3) : (performRender m s).done = s.done := rfl
@[simp] theorem performRender_err (m : BitVec 3) : (performRender m s).err = s.err := rfl
@[simp] theorem performRender_ovr (m : BitVec 3) : (performRender m s).ovr = s.ovr := rfl
@[simp] theorem performRender_errCode (m : BitVec 3) : (performRender m s).errCode = s.errCode := rfl
@[simp] theorem performRender_errInfo (m : BitVec 3) : (performRender m s).errInfo = s.errInfo := rfl
@[simp] theorem performRender_textBuf (m : BitVec 3) : (performRender m s).textBuf = s.textBuf := rfl
@[simp] theorem performRender_textLen (m : BitVec 3) : (performRender m s).textLen = s.textLen := rfl
@[simp] theorem performRender_cwBuf (m : BitVec 3) : (performRender m s).cwBuf = s.cwBuf := rfl
@[simp] theorem performRender_result (m : BitVec 3) : (performRender m s).result = s.result := rfl
@[simp] theorem performRender_modeAlnum (m : BitVec 3) : (performRender m s).modeAlnum = s.modeAlnum := rfl
@[simp] theorem performRender_modeValid (m : BitVec 3) : (performRender m s).modeValid = s.modeValid := rfl
@[simp] theorem performRender_dataBits (m : BitVec 3) : (performRender m s).dataBits = s.dataBits := rfl
@[simp] theorem performRender_penTotal (m : BitVec 3) : (performRender m s).penTotal = s.penTotal := rfl
@[simp] theorem performRender_penRun (m : BitVec 3) : (performRender m s).penRun = s.penRun := rfl
@[simp] theorem performRender_penBlock (m : BitVec 3) : (performRender m s).penBlock = s.penBlock := rfl
@[simp] theorem performRender_penFinder (m : BitVec 3) : (performRender m s).penFinder = s.penFinder := rfl
@[simp] theorem performRender_penBalance (m : BitVec 3) : (performRender m s).penBalance = s.penBalance := rfl
@[simp] theorem performRender_blackCount (m : BitVec 3) : (performRender m s).blackCount = s.blackCount := rfl
@[simp] theorem performRender_maskPen (m : BitVec 3) : (performRender m s).maskPen = s.maskPen := rfl
@[simp] theorem performRender_synd (m : BitVec 3) : (performRender m s).synd = s.synd := rfl
@[simp] theorem performRender_matrix (m : BitVec 3) : (performRender m s).matrix = render s.cwBuf m := rfl
@[simp] theorem performRender_best (m : BitVec 3) : (performRender m s).best = s.best := rfl
@[simp] theorem performRender_bestMask (m : BitVec 3) : (performRender m s).bestMask = s.bestMask := rfl
@[simp] theorem performRender_bestValid (m : BitVec 3) : (performRender m s).bestValid = s.bestValid := rfl
@[simp] theorem performRender_bestPenalty (m : BitVec 3) : (performRender m s).bestPenalty = s.bestPenalty := rfl
@[simp] theorem performRender_cmdState (m : BitVec 3) : (performRender m s).cmdState = s.cmdState := rfl
@[simp] theorem performRender_curCmd (m : BitVec 3) : (performRender m s).curCmd = s.curCmd := rfl
@[simp] theorem performRender_bus (m : BitVec 3) : (performRender m s).bus = s.bus := rfl
@[simp] theorem performRender_host (m : BitVec 3) : (performRender m s).host = s.host := rfl
@[simp] theorem performRender_delay (m : BitVec 3) : (performRender m s).delay = s.delay := rfl
@[simp] theorem performRender_latency (m : BitVec 3) : (performRender m s).latency = s.latency := rfl
@[simp] theorem performRender_ramInit (m : BitVec 3) : (performRender m s).ramInit = s.ramInit := rfl
@[simp] theorem performRender_fresh (m : BitVec 3) : (performRender m s).fresh = s.fresh := rfl

/-! ### R285: PENALTY's writes. -/

@[simp] theorem setScore_irqEn (p : Score) : (setScore p s).irqEn = s.irqEn := rfl
@[simp] theorem setScore_done (p : Score) : (setScore p s).done = s.done := rfl
@[simp] theorem setScore_err (p : Score) : (setScore p s).err = s.err := rfl
@[simp] theorem setScore_ovr (p : Score) : (setScore p s).ovr = s.ovr := rfl
@[simp] theorem setScore_errCode (p : Score) : (setScore p s).errCode = s.errCode := rfl
@[simp] theorem setScore_errInfo (p : Score) : (setScore p s).errInfo = s.errInfo := rfl
@[simp] theorem setScore_textBuf (p : Score) : (setScore p s).textBuf = s.textBuf := rfl
@[simp] theorem setScore_textLen (p : Score) : (setScore p s).textLen = s.textLen := rfl
@[simp] theorem setScore_cwBuf (p : Score) : (setScore p s).cwBuf = s.cwBuf := rfl
@[simp] theorem setScore_result (p : Score) : (setScore p s).result = s.result := rfl
@[simp] theorem setScore_modeAlnum (p : Score) : (setScore p s).modeAlnum = s.modeAlnum := rfl
@[simp] theorem setScore_modeValid (p : Score) : (setScore p s).modeValid = s.modeValid := rfl
@[simp] theorem setScore_dataBits (p : Score) : (setScore p s).dataBits = s.dataBits := rfl
@[simp] theorem setScore_penTotal (p : Score) : (setScore p s).penTotal = BitVec.ofNat 16 p.total := rfl
@[simp] theorem setScore_penRun (p : Score) : (setScore p s).penRun = BitVec.ofNat 16 p.run := rfl
@[simp] theorem setScore_penBlock (p : Score) : (setScore p s).penBlock = BitVec.ofNat 16 p.block := rfl
@[simp] theorem setScore_penFinder (p : Score) : (setScore p s).penFinder = BitVec.ofNat 16 p.finder := rfl
@[simp] theorem setScore_penBalance (p : Score) : (setScore p s).penBalance = BitVec.ofNat 16 p.balance := rfl
@[simp] theorem setScore_blackCount (p : Score) : (setScore p s).blackCount = BitVec.ofNat 9 p.black := rfl
@[simp] theorem setScore_maskPen (p : Score) : (setScore p s).maskPen = s.maskPen := rfl
@[simp] theorem setScore_synd (p : Score) : (setScore p s).synd = s.synd := rfl
@[simp] theorem setScore_matrix (p : Score) : (setScore p s).matrix = s.matrix := rfl
@[simp] theorem setScore_best (p : Score) : (setScore p s).best = s.best := rfl
@[simp] theorem setScore_bestMask (p : Score) : (setScore p s).bestMask = s.bestMask := rfl
@[simp] theorem setScore_bestValid (p : Score) : (setScore p s).bestValid = s.bestValid := rfl
@[simp] theorem setScore_bestPenalty (p : Score) : (setScore p s).bestPenalty = s.bestPenalty := rfl
@[simp] theorem setScore_cmdState (p : Score) : (setScore p s).cmdState = s.cmdState := rfl
@[simp] theorem setScore_curCmd (p : Score) : (setScore p s).curCmd = s.curCmd := rfl
@[simp] theorem setScore_bus (p : Score) : (setScore p s).bus = s.bus := rfl
@[simp] theorem setScore_host (p : Score) : (setScore p s).host = s.host := rfl
@[simp] theorem setScore_delay (p : Score) : (setScore p s).delay = s.delay := rfl
@[simp] theorem setScore_latency (p : Score) : (setScore p s).latency = s.latency := rfl
@[simp] theorem setScore_ramInit (p : Score) : (setScore p s).ramInit = s.ramInit := rfl
@[simp] theorem setScore_fresh (p : Score) : (setScore p s).fresh = s.fresh := rfl

end Sys2Proof.Machine
end

