-- ==== Sys2Proof/Laws/Ops.lean ====
section
/-! SUPPORT. What the shared operations of Sys2Proof/Machine/Ops.lean can do, and every meaning as
`finish` of one `perform` (R118). -/

namespace Sys2Proof.Machine

open Sys2Proof

@[simp] theorem finish_ok (s t : State) : finish s (.ok t) = .next (completeOk t) := rfl

@[simp] theorem finish_error (s : State) (e : CmdError) : finish s (.error e) = .next (raiseError e s) := rfl

/-- A completion is one of two: all writes and no error, or an error and no write (R118). -/
theorem finish_cases {s t : State} {r : Except CmdError State} (h : finish s r = .next t) :
    (∃ u, r = .ok u ∧ t = completeOk u) ∨ (∃ e, r = .error e ∧ t = raiseError e s) := by
  cases r with
  | ok u => exact .inl ⟨u, rfl, (Host.Outcome.next.inj h).symm⟩
  | error e => exact .inr ⟨e, rfl, (Host.Outcome.next.inj h).symm⟩

/-- `perform` of each command: "it returns ok or error(E, info)" (R118). -/
def perform (i : Instr) (s : State) : Except CmdError State :=
  match i with
  | .nop => .ok s
  | .gfAdd x y => .ok (setResult (gfAdd x y) s)
  | .gfSub x y => .ok (setResult (gfAdd x y) s)
  | .gfMul x y => .ok (setResult (gfMul x y) s)
  | .gfDiv x y => performGf .divisionByZero (gfDiv x y) s
  | .gfPow x e => performGf .powOfZero (gfPow x e) s
  | .gfInv x => performGf .inverseOfZero (gfInv x) s
  | .gfExp k => .ok (setResult (expAt k.toNat k.isLt) s)
  | .gfLog x => performGf .logOfZero (gfLog x) s
  | .rsEncode => .ok (performRsEncode s)
  | .rsSyndrome => .ok (performRsSyndrome s)
  | .compose => performCompose s
  | .render m => .ok (performRender m s)
  | .penalty => performPenalty s
  | .select => .ok (performSelect s)
  | .encode => performEncode s

/-- Every command is the completion of its `perform` (R118). -/
theorem exec_eq_finish (i : Instr) (s : State) : exec i s = finish s (perform i s) := by cases i <;> rfl

/-- What one command can do: it writes what `perform` gives and completes, or it records one error (R118). -/
theorem exec_cases {i : Instr} {s t : State} (h : exec i s = .next t) :
    (∃ u, perform i s = .ok u ∧ t = completeOk u) ∨ (∃ e, perform i s = .error e ∧ t = raiseError e s) :=
  finish_cases (exec_eq_finish i s ▸ h)

/-- A GF command writes RESULT alone, or records its own error with the command word. -/
theorem performGf_eq (e : ErrKind) (r : Option Byte) (s : State) :
    performGf e r s = (match r with | some v => .ok (setResult v s) | none => .error ⟨e, s.curCmd⟩) := rfl

@[simp] theorem busy_iff (s : State) : s.busy = true ↔ s.cmdState = .pending := by simp [State.busy]

@[simp] theorem inReset_iff (s : State) : s.inReset = true ↔ ∃ x rest, s.host = .hwReset x :: rest := by
  unfold State.inReset
  cases s.host with
  | nil => simp
  | cons e rest => cases e <;> simp [HostEvent.isReset]

/-- A loaded command is not held in reset. -/
@[simp] theorem inReset_loadCommand (w : Word) (s : State) : (loadCommand w s).inReset = false := by
  unfold State.inReset
  cases h : (loadCommand w s).host with
  | nil => rfl
  | cons e rest =>
    have := List.head?_dropWhile_not HostEvent.isReset s.host
    rw [show s.host.dropWhile HostEvent.isReset = e :: rest from h] at this
    simpa using this

/-- Issue, field by field of what it changes (R117, R392). -/
theorem issue_eq (w : Word) (s : State) :
    issue w s = { s with
      curCmd := w, cmdState := .pending, done := false, err := false, errCode := 0#4, errInfo := 0#32,
      delay := s.latency.headD 0, latency := s.latency.tail } := rfl

/-- A soft reset of an idle unit keeps both buffers (R381). -/
theorem softReset_idle {s : State} (h : s.cmdState = .idle) : softReset s = resetKeepingBuffers s := by
  simp [softReset, State.busy, h]

/-- A soft reset with a command in flight first abandons it (R382). -/
theorem softReset_pending {s : State} (h : s.cmdState = .pending) :
    softReset s = resetKeepingBuffers (abandon s) := by
  simp [softReset, State.busy, h]

/-- An abandoned command leaves TEXT_BUF, and every CW_BUF element it could not write, as they were (R382). -/
theorem abandon_keeps (s : State) (k : Fin 26) (h : wordCouldWriteCw s.curCmd k = false) :
    (abandon s).textBuf = s.textBuf ∧ (abandon s).cwBuf[k] = s.cwBuf[k] := by
  simp [abandon, abandonedCw, h]

end Sys2Proof.Machine
end

