-- ==== Sys2Proof/Laws/Bus.lean ====
section
/-! SUPPORT. Lemmas of Sys2Proof/Machine/Bus.lean: the address of each target decodes to it, and what a host
event can do. -/

namespace Sys2Proof.Machine

open Sys2Proof

/-- The address of a target decodes to the target (R84). -/
@[simp] theorem decodeAddr_addr (t : Target) : decodeAddr t.addr = .ok t := by
  cases t with
  | matrix q => revert q; decide +kernel
  | best q => revert q; decide +kernel
  | textBuf i => revert i; decide +kernel
  | cwBuf i => revert i; decide +kernel
  | maskPen m => revert m; decide +kernel
  | synd j => revert j; decide +kernel
  | genRom k => revert k; decide +kernel
  | _ => decide +kernel

@[simp] theorem hostWrite_addr (t : Target) (d : Word) (s : State) :
    hostWrite t.addr d s = respond ⟨none, false⟩ (poke t d s) := by simp [hostWrite]

/-- What a write to a register that takes none while BUSY = 1 does (R390). -/
theorem unlessBusy_cases (s : State) (write : State → State) :
    (s.cmdState = .pending ∧ unlessBusy s write = { s with ovr := true }) ∨
    (s.cmdState = .idle ∧ unlessBusy s write = write s) := by
  cases h : s.cmdState <;> simp [unlessBusy, State.busy, h]

/-- What a write to any target can do to the state (R34, R36, R86, R117, R390). -/
theorem poke_cases (t : Target) (d : Word) (s : State) :
    poke t d s = s ∨ poke t d s = s.clearStatus d ∨ poke t d s = s.setIrqEn d ∨ poke t d s = softReset s ∨
    poke t d s = { s with ovr := true } ∨
    (s.cmdState = .idle ∧ (poke t d s = issue d s ∨ poke t d s = { s with textLen := d.setWidth 9 } ∨
      (∃ i : Fin 26, poke t d s = { s with cwBuf := s.cwBuf.set i (d.setWidth 8) }) ∨
      ∃ i : Fin 256, poke t d s = { s with textBuf := s.textBuf.set i (d.setWidth 8) })) := by
  cases t with
  | ctrl =>
    by_cases h : d.getLsbD 0 = true
    · exact .inr (.inr (.inr (.inl (if_pos h))))
    · exact .inr (.inr (.inl (if_neg h)))
  | status => exact .inr (.inl rfl)
  | cmd =>
    obtain ⟨-, h⟩ | ⟨h', h⟩ := unlessBusy_cases s (issue d)
    · exact .inr (.inr (.inr (.inr (.inl h))))
    · exact .inr (.inr (.inr (.inr (.inr ⟨h', .inl h⟩))))
  | textLen =>
    obtain ⟨-, h⟩ | ⟨h', h⟩ := unlessBusy_cases s fun s => { s with textLen := d.setWidth 9 }
    · exact .inr (.inr (.inr (.inr (.inl h))))
    · exact .inr (.inr (.inr (.inr (.inr ⟨h', .inr (.inl h)⟩))))
  | cwBuf i =>
    obtain ⟨-, h⟩ | ⟨h', h⟩ := unlessBusy_cases s fun s => { s with cwBuf := s.cwBuf.set i (d.setWidth 8) }
    · exact .inr (.inr (.inr (.inr (.inl h))))
    · exact .inr (.inr (.inr (.inr (.inr ⟨h', .inr (.inr (.inl ⟨i, h⟩))⟩))))
  | textBuf i =>
    obtain ⟨-, h⟩ | ⟨h', h⟩ := unlessBusy_cases s fun s => { s with textBuf := s.textBuf.set i (d.setWidth 8) }
    · exact .inr (.inr (.inr (.inr (.inl h))))
    · exact .inr (.inr (.inr (.inr (.inr ⟨h', .inr (.inr (.inr ⟨i, h⟩))⟩))))
  | _ => exact .inl rfl

/-- What a host transfer can do: a response, after a write to a target, after a free value is drawn, or
after nothing at all (R82, R85, R87). -/
theorem hostTransfer_cases (x : Transfer) (s : State) :
    ∃ r, hostTransfer x s = respond r s ∨ hostTransfer x s = respond r { s with fresh := s.fresh + 1 } ∨
      ∃ t d, hostTransfer x s = respond r (poke t d s) := by
  cases x with
  | read a =>
    cases h : decodeAddr a with
    | error e => exact ⟨⟨some 0#32, true⟩, .inl (by simp [hostTransfer, hostRead, h])⟩
    | ok t =>
      by_cases hb : (s.busy && !t.definedWhileBusy) = true
      · exact ⟨⟨some (Config.freeWord s.fresh), false⟩, .inr (.inl (by simp only [hostTransfer, hostRead, h, if_pos hb]))⟩
      · exact ⟨⟨some (peek s t), false⟩, .inl (by simp only [hostTransfer, hostRead, h, if_neg hb])⟩
  | write a d =>
    cases h : decodeAddr a with
    | error e => cases e with
      | misaligned => exact ⟨⟨some 0#32, true⟩, .inl (by simp [hostTransfer, hostWrite, h])⟩
      | unmapped => exact ⟨⟨none, true⟩, .inl (by simp [hostTransfer, hostWrite, h])⟩
    | ok t => exact ⟨⟨none, false⟩, .inr (.inr ⟨t, d, by simp [hostTransfer, hostWrite, h]⟩)⟩

end Sys2Proof.Machine
end

