-- ==== Sys2Proof/Laws/Decode.lean ====
section
/-! SUPPORT. Lemmas of Sys2Proof/Decode.lean: the fields of a packed word, its decoding, and what R114's
masks keep of it. -/

namespace Sys2Proof

@[simp] theorem opField_packWord (op a b : Byte) : opField (packWord op a b) = op := by
  apply BitVec.eq_of_getLsbD_eq
  intro i hi
  simp [opField, packWord, hi, show i < 32 by omega, show i < 16 by omega]

@[simp] theorem aField_packWord (op a b : Byte) : aField (packWord op a b) = a := by
  apply BitVec.eq_of_getLsbD_eq
  intro i hi
  simp [aField, packWord, hi, show 8 + i < 16 by omega, show 8 + i < 32 by omega]

@[simp] theorem bField_packWord (op a b : Byte) : bField (packWord op a b) = b := by
  apply BitVec.eq_of_getLsbD_eq
  intro i hi
  simp [bField, packWord, hi, show 16 + i < 32 by omega, show 16 + i - 8 = 8 + i by omega,
    BitVec.getLsbD_of_ge op (16 + i) (by omega)]

@[simp] theorem zField_packWord (op a b : Byte) : zField (packWord op a b) = 0#8 := by
  apply BitVec.eq_of_getLsbD_eq
  intro i hi
  simp [zField, packWord, show 24 + i - 8 = 16 + i by omega, show 24 + i - 16 = 8 + i by omega,
    BitVec.getLsbD_of_ge op (24 + i) (by omega), BitVec.getLsbD_of_ge a (16 + i) (by omega)]

/-- A packed word decodes as its three fields do. -/
theorem decode_packWord (op a b : Byte) : decode (packWord op a b) = decodeFields op a b := by
  simp [decode]

@[simp] theorem maskOf_setWidth (m : BitVec 3) : maskOf (m.setWidth 8) = m := by revert m; decide

@[simp] theorem maskHigh_setWidth (m : BitVec 3) : maskHigh (m.setWidth 8) = 0#5 := by revert m; decide

/-- Format N's mask keeps the whole word (R114). -/
theorem packWord_and_maskN (op a b : Byte) : packWord op a b &&& 0xFFFFFFFF#32 = packWord op a b := by
  apply BitVec.eq_of_getLsbD_eq
  intro i hi
  interval_cases i <;> simp [packWord]

/-- Format AB's mask keeps OP and Z (R114). -/
theorem packWord_and_maskAB (op a b : Byte) : packWord op a b &&& 0xFF0000FF#32 = packWord op 0#8 0#8 := by
  apply BitVec.eq_of_getLsbD_eq
  intro i hi
  interval_cases i <;> simp [packWord]

/-- Format A's mask keeps OP, B and Z (R114). -/
theorem packWord_and_maskA (op a b : Byte) : packWord op a b &&& 0xFFFF00FF#32 = packWord op 0#8 b := by
  apply BitVec.eq_of_getLsbD_eq
  intro i hi
  interval_cases i <;> simp [packWord]

/-- Format M's mask leaves out the mask number (R114). -/
theorem packWord_and_maskM (op : Byte) (m : BitVec 3) :
    packWord op (m.setWidth 8) 0#8 &&& 0xFFFFF8FF#32 = packWord op 0#8 0#8 := by
  apply BitVec.eq_of_getLsbD_eq
  intro i hi
  interval_cases i <;> simp [packWord]

end Sys2Proof
end

