-- ==== Sys2Proof/Laws/Gf.lean ====
section
/-! SUPPORT. Lemmas of Sys2Proof/Machine/Gf.lean: the operations by cases of LOG. -/

namespace Sys2Proof.Machine

open Sys2Proof

/-- "`LOG[0]` has no value" (R143). -/
@[simp] theorem logOf_zero : logOf 0#8 = none := by decide +kernel

@[simp] theorem gfMul_zero_left (y : Byte) : gfMul 0#8 y = 0#8 := by simp [gfMul]

@[simp] theorem gfMul_zero_right (x : Byte) : gfMul x 0#8 = 0#8 := by
  unfold gfMul
  cases logOf x <;> simp

@[simp] theorem gfDiv_zero (x : Byte) : gfDiv x 0#8 = none := by simp [gfDiv]

@[simp] theorem gfPow_zero (e : Byte) : gfPow 0#8 e = none := by simp [gfPow]

@[simp] theorem gfInv_zero : gfInv 0#8 = none := by simp [gfInv]

@[simp] theorem gfLog_zero : gfLog 0#8 = none := by simp [gfLog]

theorem gfMul_of_logs {x y : Byte} {a b : Nat} (hx : logOf x = some a) (hy : logOf y = some b) :
    gfMul x y = expMod (a + b) := by simp [gfMul, hx, hy]

theorem gfDiv_of_logs {x y : Byte} {a b : Nat} (hx : logOf x = some a) (hy : logOf y = some b) :
    gfDiv x y = some (expMod (a + 255 - b)) := by simp [gfDiv, hx, hy]

end Sys2Proof.Machine
end

