-- ==== Sys2Proof/Laws/PerInstr.lean ====
section
/-! SUPPORT. Statements made of each instruction as syntax. RowMatch: it is well-formed, and its word is
selected by its own row of R114's match and mask table. -/

namespace Sys2Proof.Laws

open Sys2Proof

/-- The instruction is well-formed and its encoding matches its row of R114. -/
def RowMatch.Statement (i : Instr) : Prop :=
  i.wf = true ∧ ∃ r ∈ opcodeTable, r.mnemonic = i.spelling.mnemonic ∧ encode i &&& r.mask = r.pattern

/-- An 8-bit operand is in the range an assembler accepts (R120). -/
theorem operand_lt (x : Byte) : x.toNat < 256 := x.isLt

theorem RowMatch.nop : RowMatch.Statement .nop :=
  ⟨rfl, ⟨.nop, 0x00000000#32, 0xFFFFFFFF#32⟩, by decide, rfl, by decide⟩

theorem RowMatch.gfAdd (x y : Byte) : RowMatch.Statement (.gfAdd x y) :=
  ⟨by simp [Instr.wf, Instr.spelling, AsmLine.wf, Mnemonic.format, operand_lt],
    ⟨.gfAdd, 0x00000001#32, 0xFF0000FF#32⟩, by decide, rfl, packWord_and_maskAB 0x01#8 x y⟩

theorem RowMatch.gfSub (x y : Byte) : RowMatch.Statement (.gfSub x y) :=
  ⟨by simp [Instr.wf, Instr.spelling, AsmLine.wf, Mnemonic.format, operand_lt],
    ⟨.gfSub, 0x00000002#32, 0xFF0000FF#32⟩, by decide, rfl, packWord_and_maskAB 0x02#8 x y⟩

theorem RowMatch.gfMul (x y : Byte) : RowMatch.Statement (.gfMul x y) :=
  ⟨by simp [Instr.wf, Instr.spelling, AsmLine.wf, Mnemonic.format, operand_lt],
    ⟨.gfMul, 0x00000003#32, 0xFF0000FF#32⟩, by decide, rfl, packWord_and_maskAB 0x03#8 x y⟩

theorem RowMatch.gfDiv (x y : Byte) : RowMatch.Statement (.gfDiv x y) :=
  ⟨by simp [Instr.wf, Instr.spelling, AsmLine.wf, Mnemonic.format, operand_lt],
    ⟨.gfDiv, 0x00000004#32, 0xFF0000FF#32⟩, by decide, rfl, packWord_and_maskAB 0x04#8 x y⟩

theorem RowMatch.gfPow (x e : Byte) : RowMatch.Statement (.gfPow x e) :=
  ⟨by simp [Instr.wf, Instr.spelling, AsmLine.wf, Mnemonic.format, operand_lt],
    ⟨.gfPow, 0x00000005#32, 0xFF0000FF#32⟩, by decide, rfl, packWord_and_maskAB 0x05#8 x e⟩

theorem RowMatch.gfInv (x : Byte) : RowMatch.Statement (.gfInv x) :=
  ⟨by simp [Instr.wf, Instr.spelling, AsmLine.wf, Mnemonic.format, operand_lt],
    ⟨.gfInv, 0x00000006#32, 0xFFFF00FF#32⟩, by decide, rfl, packWord_and_maskA 0x06#8 x 0#8⟩

theorem RowMatch.gfExp (i : Byte) : RowMatch.Statement (.gfExp i) :=
  ⟨by simp [Instr.wf, Instr.spelling, AsmLine.wf, Mnemonic.format, operand_lt],
    ⟨.gfExp, 0x00000007#32, 0xFFFF00FF#32⟩, by decide, rfl, packWord_and_maskA 0x07#8 i 0#8⟩

theorem RowMatch.gfLog (x : Byte) : RowMatch.Statement (.gfLog x) :=
  ⟨by simp [Instr.wf, Instr.spelling, AsmLine.wf, Mnemonic.format, operand_lt],
    ⟨.gfLog, 0x00000008#32, 0xFFFF00FF#32⟩, by decide, rfl, packWord_and_maskA 0x08#8 x 0#8⟩

theorem RowMatch.rsEncode : RowMatch.Statement .rsEncode :=
  ⟨rfl, ⟨.rsEncode, 0x00000010#32, 0xFFFFFFFF#32⟩, by decide, rfl, by decide⟩

theorem RowMatch.rsSyndrome : RowMatch.Statement .rsSyndrome :=
  ⟨rfl, ⟨.rsSyndrome, 0x00000011#32, 0xFFFFFFFF#32⟩, by decide, rfl, by decide⟩

theorem RowMatch.compose : RowMatch.Statement .compose :=
  ⟨rfl, ⟨.compose, 0x00000020#32, 0xFFFFFFFF#32⟩, by decide, rfl, by decide⟩

theorem RowMatch.render (m : BitVec 3) : RowMatch.Statement (.render m) :=
  ⟨by simpa [Instr.wf, Instr.spelling, AsmLine.wf, Mnemonic.format] using m.isLt,
    ⟨.render, 0x00000030#32, 0xFFFFF8FF#32⟩, by decide, rfl, packWord_and_maskM 0x30#8 m⟩

theorem RowMatch.penalty : RowMatch.Statement .penalty :=
  ⟨rfl, ⟨.penalty, 0x00000031#32, 0xFFFFFFFF#32⟩, by decide, rfl, by decide⟩

theorem RowMatch.select : RowMatch.Statement .select :=
  ⟨rfl, ⟨.select, 0x00000040#32, 0xFFFFFFFF#32⟩, by decide, rfl, by decide⟩

theorem RowMatch.encode : RowMatch.Statement .encode :=
  ⟨rfl, ⟨.encode, 0x00000041#32, 0xFFFFFFFF#32⟩, by decide, rfl, by decide⟩

end Sys2Proof.Laws
end

