-- ==== Sys2Proof/Laws/Render.lean ====
section
/-! SUPPORT. Lemmas of Sys2Proof/Machine/Render.lean: the placement table against the traversal (R250), the
counts of R248, and the format strings against their construction (R246). -/

namespace Sys2Proof.Machine

open Sys2Proof

/-- The placement table is `order` read backwards: the k-th visited cell holds k (R250). -/
theorem order_placement : (order.map fun p => placement.getD (linear p) 0) = List.range 208 := by decide +kernel

/-- The other 233 entries of the placement table mark reserved cells (R248, R250). -/
theorem placement_reserved : placement.count 208 = 233 := by decide +kernel

/-- The format ROM holds what R246's construction gives. -/
theorem fmtRom_bch : fmtRom.toList.map BitVec.toNat = (List.range 8).map bchFormat := by decide +kernel

end Sys2Proof.Machine
end

