-- ==== Sys2Proof/Laws/Step.lean ====
section
/-! SUPPORT. What one step can do (R9, R118, R392). -/

namespace Sys2Proof.Machine

open Sys2Proof

@[simp] theorem completionDue_iff (s : State) :
    completionDue s = true ↔ s.inReset = false ∧ s.cmdState = .pending ∧ s.delay = 0 := by
  simp [completionDue, and_assoc]

/-- At an edge with `rst_n` = 0 the reset takes place, in whatever state (R380). -/
theorem step_hwReset {s : State} {x : Option Transfer} {rest : List HostEvent} (h : s.host = .hwReset x :: rest) :
    step s = .next (resetEdge x { tick (quiet s) with host := rest }) := by
  simp [step, completionDue, State.inReset, HostEvent.isReset, hostEdge, hostStep, h]

/-- Whatever the host has planned, the step after withFetchWord is the completion step of the placed word. -/
theorem step_withFetchWord (s : State) (nbits w : Nat) :
    step (s.withFetchWord nbits w) = completionStep (s.withFetchWord nbits w) := by
  have h : completionDue (s.withFetchWord nbits w) = true :=
    (completionDue_iff _).2 ⟨inReset_loadCommand _ s, rfl, rfl⟩
  simp only [step, if_pos h]

/-- What one step can do: complete the command in flight with all its writes, or with one error; or, no
completion being due, let the host act. -/
theorem step_cases {s t : State} (h : step s = .next t) :
    (s.inReset = false ∧ s.cmdState = .pending ∧ s.delay = 0 ∧
      ((∃ i u, decode s.curCmd = .ok i ∧ perform i (quiet s) = .ok u ∧ t = completeOk u) ∨
        ∃ e, t = raiseError e (quiet s))) ∨
    (¬ (s.inReset = false ∧ s.cmdState = .pending ∧ s.delay = 0) ∧ t = hostEdge s) := by
  by_cases hd : completionDue s = true
  · have hd' := (completionDue_iff s).1 hd
    refine .inl ⟨hd'.1, hd'.2.1, hd'.2.2, ?_⟩
    simp only [step, if_pos hd, completionStep] at h
    cases he : decode s.curCmd with
    | error e =>
      rw [he] at h
      exact .inr ⟨⟨.illegalCommand, s.curCmd⟩, (Host.Outcome.next.inj h).symm⟩
    | ok i =>
      rw [he] at h
      obtain ⟨u, hu, rfl⟩ | ⟨e, -, rfl⟩ := exec_cases h
      · exact .inl ⟨i, u, rfl, hu, rfl⟩
      · exact .inr ⟨e, rfl⟩
  · refine .inr ⟨fun hc => hd ((completionDue_iff s).2 hc), ?_⟩
    simp only [step, if_neg hd] at h
    exact (Host.Outcome.next.inj h).symm

end Sys2Proof.Machine
end

