-- ==== Sys2Proof/Tests/Slice0.lean ====
section
/-! SUPPORT. Tests. Every expected value is taken from the spec: the vectors of spec/95_test_vectors.md
(V-ENC, V-GF, V-RS, V-SYN, V-CMP, V-REN, V-PEN, V-SEL, V-HOST) or the examples of the rule named. The
theorems `witness_…` show inputs that meet the hypotheses of the obligation they name. -/

namespace Sys2Proof.Tests

-- One declaration after the other: the tests' kernel evaluations are not run side by side.
set_option Elab.async false

open Sys2Proof Sys2Proof.Machine Sys2Proof.Claims

/-! ### Helpers -/

/-- The characters of a string, as bytes. -/
def chars (t : String) : List Byte := t.toList.map fun c => BitVec.ofNat 8 c.toNat

/-- The reset state with a text loaded. -/
def withText (t : List Byte) : State :=
  { State.reset with textLen := BitVec.ofNat 9 t.length, textBuf := fill 256 fun i => t.getD i 0#8 }

/-- The reset state with codewords loaded. -/
def withCw (cw : Vector Byte 26) : State := { State.reset with cwBuf := cw }

/-- The reset state with a word in flight and its completion due. -/
def flight (w : Nat) : State := State.reset.withFetchWord 32 w

/-- What `f` reads after one step that runs the word `w` on `s`. -/
def after {α : Type} (w : Nat) (s : State) (f : State → α) : Option α :=
  match step (s.withFetchWord 32 w) with
  | .next t => some (f t)
  | .fault _ => none
  | .refused _ => none

/-- RESULT and STATUS. -/
def resultStatus (t : State) : Byte × Word := (t.result, t.statusWord)

/-- STATUS and ERRINFO. -/
def statusInfo (t : State) : Word × Word := (t.statusWord, t.errInfo)

/-- V-RS-1's 26 codewords. -/
def cw1 : Vector Byte 26 :=
  #v[32, 155, 11, 120, 209, 114, 220, 77, 68, 227, 216, 1, 120, 172, 152, 0, 236, 17, 236,
     185, 50, 241, 188, 45, 229, 215]

/-- A line of 21 colours, 1 = black. -/
def line (t : String) : List Bool := t.toList.map fun c => c == '1'

/-! ### Well-formedness: the assembler's checks (R112, R120) -/

theorem test_wf_accepts : AsmLine.wf ⟨.gfMul, [3, 7]⟩ = true := by decide

theorem test_wf_refuses_operand_of_formatN : AsmLine.wf ⟨.nop, [0]⟩ = false := by decide

theorem test_wf_refuses_missing_operand_of_formatA : AsmLine.wf ⟨.gfInv, []⟩ = false := by decide

theorem test_wf_refuses_large_operand_of_formatA : AsmLine.wf ⟨.gfLog, [256]⟩ = false := by decide

theorem test_wf_refuses_missing_operand_of_formatAB : AsmLine.wf ⟨.gfAdd, [1]⟩ = false := by decide

theorem test_wf_refuses_large_first_of_formatAB : AsmLine.wf ⟨.gfDiv, [256, 1]⟩ = false := by decide

theorem test_wf_refuses_large_second_of_formatAB : AsmLine.wf ⟨.gfPow, [1, 256]⟩ = false := by decide

theorem test_wf_refuses_third_operand : AsmLine.wf ⟨.gfSub, [1, 2, 3]⟩ = false := by decide

theorem test_wf_refuses_mask_8 : AsmLine.wf ⟨.render, [8]⟩ = false := by decide

theorem test_wf_refuses_missing_mask : AsmLine.wf ⟨.render, []⟩ = false := by decide

/-! ### Decoding: words written out from R111, R114, V-ENC and V-GF -/

theorem test_decode_nop : decode 0x00000000#32 = .ok .nop := by decide

theorem test_decode_gfAdd : decode 0x00CA5301#32 = .ok (.gfAdd 83#8 202#8) := by decide

theorem test_decode_gfSub : decode 0x00800202#32 = .ok (.gfSub 2#8 128#8) := by decide

theorem test_decode_gfMul : decode 0x00070303#32 = .ok (.gfMul 3#8 7#8) := by decide

theorem test_decode_gfDiv : decode 0x00000704#32 = .ok (.gfDiv 7#8 0#8) := by decide

theorem test_decode_gfPow : decode 0x00080205#32 = .ok (.gfPow 2#8 8#8) := by decide

theorem test_decode_gfInv : decode 0x00005306#32 = .ok (.gfInv 83#8) := by decide

theorem test_decode_gfExp : decode 0x0000FE07#32 = .ok (.gfExp 254#8) := by decide

theorem test_decode_gfLog : decode 0x00001D08#32 = .ok (.gfLog 29#8) := by decide

theorem test_decode_rsEncode : decode 0x00000010#32 = .ok .rsEncode := by decide

theorem test_decode_rsSyndrome : decode 0x00000011#32 = .ok .rsSyndrome := by decide

theorem test_decode_compose : decode 0x00000020#32 = .ok .compose := by decide

theorem test_decode_render : decode 0x00000530#32 = .ok (.render 5#3) := by decide

theorem test_decode_penalty : decode 0x00000031#32 = .ok .penalty := by decide

theorem test_decode_select : decode 0x00000040#32 = .ok .select := by decide

theorem test_decode_encode : decode 0x00000041#32 = .ok .encode := by decide

theorem test_decode_z_nonzero :
    decode 0x01000003#32 = .error .zNonzero ∧ decode 0x80000000#32 = .error .zNonzero := by decide

/-- R115's unassigned opcodes, the first and last of each range. -/
theorem test_decode_unassigned :
    ([0x09#32, 0x0F#32, 0x12#32, 0x1F#32, 0x21#32, 0x2F#32, 0x32#32, 0x3F#32, 0x42#32, 0xFF#32].all fun w =>
      decide (decode w = .error .unassigned)) = true := by decide

theorem test_decode_operand_nonzero :
    ([0x00010006#32, 0x00000100#32, 0x00000110#32, 0x00000830#32, 0x00010030#32].all fun w =>
      decide (decode w = .error .operandNonzero)) = true := by decide

theorem test_assemble : assemble ⟨.gfMul, [3, 7]⟩ = some 0x00070303#32 ∧
    assemble ⟨.render, [5]⟩ = some 0x00000530#32 ∧ assemble ⟨.render, [8]⟩ = none := by decide

/-! ### Commands: one step each, on vectors of V-ENC, V-GF, V-RS, V-SYN, V-CMP, V-REN, V-PEN and V-SEL -/

theorem test_nop : after 0x00000000 State.reset resultStatus = some (0#8, 2#32) := by decide +kernel

theorem test_illegal_word : after 0x01000003 State.reset statusInfo = some (0x106#32, 0x01000003#32) := by
  decide +kernel

theorem test_gfAdd : after 0x00CA5301 State.reset resultStatus = some (153#8, 2#32) := by decide +kernel

theorem test_gfSub : after 0x00800202 State.reset resultStatus = some (130#8, 2#32) := by decide +kernel

theorem test_gfMul : after 0x002A8903 State.reset resultStatus = some (195#8, 2#32) := by decide +kernel

theorem test_gfMul_by_zero : after 0x00000503 State.reset resultStatus = some (0#8, 2#32) := by decide +kernel

theorem test_gfDiv : after 0x00070304 State.reset resultStatus = some (211#8, 2#32) := by decide +kernel

theorem test_gfDiv_by_zero : after 0x00000704 State.reset statusInfo = some (0x406#32, 0x704#32) := by
  decide +kernel

theorem test_gfPow : after 0x00FE0205 State.reset resultStatus = some (142#8, 2#32) := by decide +kernel

theorem test_gfPow_of_zero : after 0x00050005 State.reset statusInfo = some (0x706#32, 0x00050005#32) := by
  decide +kernel

theorem test_gfInv : after 0x00005306 State.reset resultStatus = some (140#8, 2#32) := by decide +kernel

theorem test_gfInv_of_one : after 0x00000106 State.reset resultStatus = some (1#8, 2#32) := by decide +kernel

theorem test_gfExp : after 0x0000FF07 State.reset resultStatus = some (1#8, 2#32) := by decide +kernel

theorem test_gfLog : after 0x0000FF08 State.reset resultStatus = some (175#8, 2#32) := by decide +kernel

theorem test_gfLog_of_zero : after 0x00000008 State.reset statusInfo = some (0x606#32, 8#32) := by decide +kernel

/-- V-RS-1; what CW_BUF[19..25] held before does not matter. -/
theorem test_rsEncode :
    after 0x10 (withCw (tabulate fun k => if k.val < 19 then cw1[k] else 99#8)) (fun t => t.cwBuf) = some cw1 := by
  decide +kernel

/-- V-SYN-4: an error 1 at codeword 0. -/
theorem test_rsSyndrome :
    after 0x11 (withCw (cw1.set 0 33#8)) (fun t => t.synd) = some #v[1, 3, 5, 15, 17, 51, 85] := by decide +kernel

/-- V-CMP: "12␠34", an odd alphanumeric text with digits and a space. -/
theorem test_compose :
    after 0x20 (withText (chars "12 34")) (fun t => (peek t .modeInfo, t.cwBuf.toList.take 19)) =
      some (0x2903#32, [32, 40, 47, 202, 226, 0, 236, 17, 236, 17, 236, 17, 236, 17, 236, 17, 236, 17, 236]) := by
  decide +kernel

/-- V-CMP: validation comes before the capacity check. -/
theorem test_compose_invalid_before_capacity :
    after 0x20 (withText (0x61#8 :: List.replicate 29 0x41#8)) statusInfo = some (0x206#32, 0x00610000#32) := by
  decide +kernel

/-- V-PEN: PENALTY after reset. -/
theorem test_penalty_not_rendered : after 0x31 State.reset statusInfo = some (0x806#32, 0#32) := by decide +kernel

/-- W3: a failed ENCODE leaves BEST_INFO. -/
theorem test_encode_invalid :
    after 0x41 (withText (chars "hello")) (fun t => (statusInfo t, peek t .bestInfo)) =
      some ((0x206#32, 0x00680000#32), 0#32) := by decide +kernel

/-! ### Rules the commands use -/

/-- V-PEN's lines: P1 and P3 of each. -/
theorem test_line_costs :
    (["000001111100000111110", "111111111111111111111", "101110100000000000000", "001011101000000000000",
      "000010111010001000000", "100010111011000000000", "000000000000001011101", "101110101110100000000"].map
        fun t => (lineRunCost (line t), lineFinderCost (line t))) =
      [(12, 0), (19, 0), (12, 80), (10, 80), (4, 40), (7, 0), (12, 80), (6, 80)] := by decide +kernel

/-- V-REN-1's format cells of mask 6, "01000001": row 8, columns 13 to 20. -/
theorem test_format_cells :
    ((List.range 8).map fun j => structAt 6#3 8 (13 + j)) =
      [some false, some true, some false, some false, some false, some false, some false, some true] := by decide

/-- V-CMP: 41 digits are composed to 151 bits, so the terminator is one bit. -/
theorem test_capacity_41_digits :
    after 0x20 (withText (List.replicate 41 0x31#8)) (fun t => (peek t .modeInfo, t.cwBuf.toList.take 19)) =
      some (0x9702#32,
        [16, 164, 111, 27, 198, 241, 188, 111, 27, 198, 241, 188, 111, 27, 198, 241, 188, 111, 22]) := by
  decide +kernel

/-! ### The host port: rows of V-HOST -/

/-- The STATUS word 0x00000406 of V-HOST. -/
def status406 : State := { State.reset with done := true, err := true, errCode := 4#4 }

theorem test_host_reads :
    (hostTransfer (.read 0x0000#14) State.reset).bus = some ⟨some 0x51524331#32, false⟩ ∧
    (hostTransfer (.read 0x0002#14) State.reset).bus = some ⟨some 0#32, true⟩ ∧
    (hostTransfer (.read 0x3000#14) State.reset).bus = some ⟨some 0#32, true⟩ ∧
    (hostTransfer (.read 0x000C#14) State.reset).bus = some ⟨some 0#32, false⟩ := by decide +kernel

theorem test_host_reserved_bits :
    (hostTransfer (.write 0x0100#14 0x1FF#32) State.reset).cwBuf[0] = 0xFF#8 ∧
    (hostTransfer (.write 0x0018#14 0xFFFFFFFF#32) State.reset).textLen = 511#9 := by decide +kernel

theorem test_host_clears_status :
    (hostTransfer (.write 0x0008#14 0x4#32) status406).statusWord = 0x402#32 ∧
    (hostTransfer (.write 0x0008#14 0x6#32) status406).statusWord = 0x400#32 := by decide +kernel

/-- A CMD write while BUSY = 1 is dropped: OVR is set, and no command is queued. -/
theorem test_host_busy_write :
    (hostTransfer (.write 0x000C#14 0#32) (flight 0x10)).ovr = true ∧
    (hostTransfer (.write 0x000C#14 0#32) (flight 0x10)).curCmd = 0x10#32 ∧
    (hostTransfer (.write 0x0010#14 7#32) (flight 0x10)).ovr = false := by decide +kernel

theorem test_host_busy_status : (hostTransfer (.read 0x0008#14) (flight 0x10)).bus = some ⟨some 1#32, false⟩ := by
  decide +kernel

/-- R380: at an edge with `rst_n` = 0 the reset wins over a completion: DONE and `irq` stay 0, nothing is written. -/
theorem test_reset_wins_over_completion :
    (match step { flight 0x00CA5301 with irqEn := true, host := [.hwReset none] } with
      | .next t => some (t.irq, t.statusWord, t.result)
      | .fault _ => none
      | .refused _ => none) = some (false, 0#32, 0#8) := by decide +kernel

theorem test_irq_rises :
    (hostTransfer (.write 0x0004#14 2#32) { State.reset with done := true }).irq = true ∧
    (hostTransfer (.write 0x0008#14 2#32) { State.reset with done := true, irqEn := true }).irq = false := by
  decide +kernel

/-- A soft reset while BUSY = 1 abandons the command; IRQ_EN written in the same word is discarded. -/
theorem test_soft_reset_busy :
    (hostTransfer (.write 0x0004#14 3#32) (flight 0x10)).cmdState = .idle ∧
    (hostTransfer (.write 0x0004#14 3#32) (flight 0x10)).irqEn = false ∧
    (hostTransfer (.write 0x0004#14 3#32) (flight 0x10)).cwBuf[18] = 0#8 := by decide +kernel

/-- The last address of each window of R84, and the first one after it. -/
theorem test_window_ends :
    ([0x005C#14, 0x0078#14, 0x009C#14, 0x0164#14, 0x07FC#14, 0x16E0#14, 0x26E0#14].map decodeAddr) =
      [.ok (.maskPen 7), .ok (.synd 6), .ok (.genRom 7), .ok (.cwBuf 25), .ok (.textBuf 255), .ok (.matrix 440),
        .ok (.best 440)] ∧
    ([0x007C#14, 0x00A0#14, 0x0168#14, 0x0800#14, 0x16E4#14, 0x26E4#14, 0x3FFC#14].all fun a =>
      decide (decodeAddr a = .error .unmapped)) = true := by decide +kernel

/-! ### Witnesses: the hypotheses of the obligations can be met -/

/-- An idle state with the given coming host events. -/
def withHost (es : List HostEvent) : State := { State.reset with host := es }

/-- A state with the word in flight and `n` edges to pass. -/
def flightAfter (w n : Nat) : State := { flight w with delay := n }

/-- A wholly rendered matrix. -/
def renderedState : State := { State.reset with matrix := Vector.replicate 441 .dataWhite }

/-- Every instruction has a next state, for any state; used below for hypotheses `exec i s = .next t`. -/
theorem exec_answers (i : Instr) (s : State) : ∃ t, exec i s = .next t := by
  rw [exec_eq_finish]
  cases perform i s with
  | ok u => exact ⟨_, rfl⟩
  | error e => exact ⟨_, rfl⟩

theorem witness_DecodeOfEncode : (Instr.gfMul 3#8 7#8).wf = true ∧ (Instr.render 7#3).wf = true := by decide

theorem witness_EncodeOfDecode : decode 0x00FFFF05#32 = .ok (.gfPow 255#8 255#8) := by decide

theorem witness_DecodeAgreesWithMaskTable :
    (⟨.render, 0x30#32, 0xFFFFF8FF#32⟩ ∈ opcodeTable ∧ 0x00000730#32 &&& 0xFFFFF8FF#32 = 0x30#32) ∧
    ∀ r ∈ opcodeTable, 0x00000830#32 &&& r.mask ≠ r.pattern := by decide

theorem witness_ExpAndLogTables : 0 + 1 < 256 ∧ 254 + 1 < 256 ∧ 254 < 255 ∧ (255#8 : Byte) ≠ 0#8 := by decide

theorem witness_GfMulByLogTables :
    logOf 1#8 = some 0 ∧ logOf 142#8 = some 254 ∧ ((0#8 : Byte) = 0#8 ∨ (5#8 : Byte) = 0#8) := by decide +kernel

theorem witness_GfDivByLogTables :
    (5#8 : Byte) ≠ 0#8 ∧ logOf 1#8 = some 0 ∧ logOf 142#8 = some 254 ∧ (200#8 : Byte) ≠ 0#8 := by decide +kernel

theorem witness_GfPowByLogTables : (2#8 : Byte) ≠ 0#8 ∧ logOf 142#8 = some 254 := by decide +kernel

theorem witness_GfInvByLogTables : (1#8 : Byte) ≠ 0#8 ∧ logOf 1#8 = some 0 := by decide +kernel

theorem witness_GfExpAndGfLogReadTables : (1#8 : Byte) ≠ 0#8 ∧ (29#8 : Byte) ≠ 0#8 := by decide

theorem witness_FieldLaws : State.reset.err = false ∧ (1#8 : Byte) ≠ 0#8 ∧ (254#8 : Byte) ≠ 255#8 := by decide +kernel

theorem witness_PseudoCommandEffects : (255#8 : Byte) ≠ 0#8 := by decide

theorem witness_RsEncodeWritesRemainder : (18 : Fin 26).val < 19 := by decide

theorem witness_SyndromesLocateSingleError : ∃ t, exec .rsEncode (withCw cw1) = .next t := exec_answers _ _

/-- The longest accepted texts, 41 digits and 25 alphanumeric characters, and the empty text. -/
theorem witness_Accepted :
    Accepted State.reset ∧ Accepted (withText (List.replicate 41 0x31#8)) ∧
    Accepted (withText (chars "ABCDEFGHIJKLMNOPQRSTUVWXY")) := by
  unfold Accepted ValidText
  decide +kernel

theorem witness_ComposeWritesDataCodewords : Accepted State.reset ∧ 19 ≤ (19 : Fin 26).val :=
  ⟨witness_Accepted.1, by decide⟩

/-- Each length the fields of R216 and R217 distinguish: 41 = 3·13 + 2 digits, 1 = 3·0 + 1 digit, and
25 = 2·12 + 1 alphanumeric characters, with the last whole group of each. -/
theorem witness_ComposeWritesDataCodewords_fields :
    DigitText (List.replicate 41 0x31#8) ∧ DigitText [0x37#8] ∧ ¬ DigitText (chars "ABCDEFGHIJKLMNOPQRSTUVWXY") ∧
    (List.replicate 41 0x31#8).length = 3 * 13 + 2 ∧ 3 * 12 + 2 < (List.replicate 41 0x31#8).length ∧
    [0x37#8].length = 3 * 0 + 1 ∧ (chars "ABCDEFGHIJKLMNOPQRSTUVWXY").length = 2 * 12 + 1 := by
  unfold DigitText
  decide +kernel

/-- The clauses of ComposeWritesDataCodewords hold of V-CMP's codewords of "123", "12", "1", "AB" and "A". -/
theorem test_stream_fields :
    let cw (l : List Byte) : Vector Byte 26 := fill 26 fun k => l.getD k 0#8
    numberAt (bitList (cw [16, 12, 123, 0])) 14 10 = 123 ∧ numberAt (bitList (cw [16, 8, 96, 0])) 14 7 = 12 ∧
    numberAt (bitList (cw [16, 4, 64, 236])) 14 4 = 1 ∧ numberAt (bitList (cw [16, 12, 123, 0])) 4 10 = 3 ∧
    numberAt (bitList (cw [32, 17, 205, 0])) 13 11 = 45 * valueAt (chars "AB") 0 + valueAt (chars "AB") 1 ∧
    numberAt (bitList (cw [32, 9, 64, 236])) 13 6 = 10 ∧ numberAt (bitList (cw [32, 17, 205, 0])) 4 9 = 2 := by
  decide +kernel
/-- The three errors at their boundaries: 257 characters; "HELLO!" with its bad character last, "hello" with
it first; 26 alphanumeric characters and 42 digits. -/
theorem witness_ComposeErrorPriority :
    256 < ({ State.reset with textLen := 257#9 } : State).textCount ∧
    ((withText (chars "HELLO!")).textCount ≤ 256 ∧ (withText (chars "HELLO!")).text = chars "HELLO!" ∧
      (∀ c ∈ chars "HELLO", c ∈ alnumSet) ∧ 0x21#8 ∉ alnumSet ∧ 0x68#8 ∉ alnumSet) ∧
    (∀ c ∈ chars "ABCDEFGHIJKLMNOPQRSTUVWXYZ", c ∈ alnumSet) ∧
    closedLength (chars "ABCDEFGHIJKLMNOPQRSTUVWXYZ") = 156 ∧ closedLength (List.replicate 42 0x31#8) = 154 := by
  decide +kernel

theorem witness_ComposedLength :
    DigitText (List.replicate 42 0x39#8) ∧ ¬ DigitText (0x20#8 :: List.replicate 25 0x30#8) := by
  unfold DigitText
  decide +kernel

theorem witness_PaddingShape :
    ([] : List Bool).length ≤ 152 ∧ (List.replicate 151 true).length ≤ 152 ∧ (List.replicate 152 true).length ≤ 152 := by
  simp

theorem witness_ComposeIsInjective :
    ValidText (chars "A B") ∧ closedLength (chars "A B") ≤ 152 ∧ chars "A B" ≠ chars "AB" := by
  unfold ValidText
  decide +kernel

theorem witness_ReservedSetIsFixed : ∀ p ∈ formatCells, p.1 ≠ (20, 20) ∧ p.2 ≠ (20, 20) := by decide

theorem witness_RenderPlacesEveryModule :
    structAt 0#3 0 0 = some true ∧ structAt 7#3 20 8 = some true ∧ order[0]? = some (20, 20) ∧
    order[207]? = some (12, 0) := by decide +kernel

theorem witness_RunRuleByMaximalRuns :
    0 < 5 ∧ ([false] : List Bool).head? ≠ some true ∧ ([] : List Bool).head? ≠ some true := by decide

theorem witness_BalanceRule : 0 ≤ 441 ∧ 441 ≤ 441 := by decide

theorem witness_PenaltyScoresMatrix_rendered :
    State.reset.err = false ∧ exec (.render 0#3) State.reset = .next (completeOk (performRender 0#3 State.reset)) ∧
    (completeOk (performRender 0#3 State.reset)).err = false := ⟨rfl, rfl, rfl⟩

theorem witness_PenaltyScoresMatrix :
    (∃ q : Fin 441, State.reset.matrix[q] = .unset) ∧ ∀ q : Fin 441, renderedState.matrix[q] ≠ .unset := by
  constructor
  · exact ⟨0, by decide +kernel⟩
  · intro q
    simp [renderedState]

theorem witness_NopOnlyCompletes : State.reset.ovr = false := rfl

theorem witness_EncodeIsThePipeline : Accepted State.reset := witness_Accepted.1

theorem witness_EncodeIsThePipeline_failed : ¬ Accepted { State.reset with textLen := 257#9 } := fun h =>
  absurd h.1 (by decide)

/-- Two different states with the same text. -/
theorem witness_EncodeDependsOnTextAlone : ∃ s s' t t' : State, s ≠ s' ∧ s.err = false ∧ s'.err = false ∧
    s.textLen = s'.textLen ∧ s.text = s'.text ∧ exec .encode s = .next t ∧ exec .encode s' = .next t' := by
  obtain ⟨t, ht⟩ := exec_answers .encode State.reset
  obtain ⟨t', ht'⟩ := exec_answers .encode (withCw cw1)
  exact ⟨State.reset, withCw cw1, t, t', by decide +kernel, rfl, rfl, rfl, rfl, ht, ht'⟩

theorem witness_EncodedSymbolReadsBack : Accepted (withText (chars "ABCDEFGHIJKLMNOPQRSTUVWXY")) :=
  witness_Accepted.2.2

theorem witness_StepRunsDecodedCommand :
    Due (flight 0x00070303) ∧ decode (flight 0x00070303).curCmd = .ok (.gfMul 3#8 7#8) := by
  exact ⟨⟨rfl, rfl, nofun⟩, by decide +kernel⟩

theorem witness_IllegalWordCompletesWithError : Due (flight 0x9) ∧ ∀ i, decode (flight 0x9).curCmd ≠ .ok i := by
  refine ⟨⟨rfl, rfl, nofun⟩, fun i h => ?_⟩
  have e : decode (flight 0x9).curCmd = .error .unassigned := by decide +kernel
  rw [e] at h
  cases h

theorem witness_WriteSets : ∃ t, exec .penalty State.reset = .next t := exec_answers _ _

theorem witness_CommandCompletesAfterLatency :
    (flightAfter 0x10 0).cmdState = .pending ∧ (flightAfter 0x10 0).host = [] ∧
    (flightAfter 0x10 3).cmdState = .pending ∧ (flightAfter 0x10 3).host = [] := by decide +kernel

theorem witness_IssueThenCompletion :
    (withHost [.transfer 0 (.write 0x000C#14 (encode .rsEncode))]).cmdState = .idle ∧
    (withHost [.transfer 0 (.write 0x000C#14 (encode .rsEncode))]).delay = 0 ∧
    (withHost [.transfer 0 (.write 0x000C#14 (encode .rsEncode))]).latency = [] ∧
    ∀ x, ([] : List HostEvent).head? ≠ some (.hwReset x) := ⟨rfl, rfl, rfl, nofun⟩

/-- A misaligned address and the first unmapped one after a window are no target's. -/
theorem witness_BusErrorsChangeNothing :
    (∀ t : Target, t.addr ≠ 0x0001#14) ∧ (0x0001#14 : Addr).toNat % 4 ≠ 0 ∧ ∀ t : Target, t.addr ≠ 0x26E4#14 := by
  refine ⟨fun t h => ?_, by decide, fun t h => ?_⟩
  · have e : decodeAddr 0x0001#14 = .error .misaligned := by decide +kernel
    rw [← h, decodeAddr_addr] at e
    cases e
  · have e : decodeAddr 0x26E4#14 = .error .unmapped := by decide +kernel
    rw [← h, decodeAddr_addr] at e
    cases e

theorem witness_StepPerformsHostTransfer :
    ¬ Due (withHost [.transfer 0 (.read 0x0000#14)]) ∧ ¬ Due (flightAfter 0x10 1) :=
  ⟨fun h => (nomatch h.1), fun h => (nomatch h.2.1)⟩

theorem witness_ReadsHaveNoSideEffects :
    State.reset.cmdState = .idle ∧ (flight 0x10).cmdState = .pending ∧
    Target.result ≠ .id ∧ Target.result ≠ .ctrl ∧ Target.result ≠ .status := by decide +kernel

theorem witness_BufferWriteAndItsFrame :
    State.reset.cmdState = .idle ∧ Target.textBuf 255 ≠ .textBuf 254 ∧ Target.cwBuf 0 ≠ .textLen := by decide +kernel

theorem witness_WritesThatDoNotStore :
    (Target.id ≠ .ctrl ∧ Target.id ≠ .status ∧ Target.id ≠ .cmd ∧ Target.id ≠ .textLen ∧
      (∀ i, Target.id ≠ .textBuf i) ∧ ∀ i, Target.id ≠ .cwBuf i) ∧
    (flight 0x10).cmdState = .pending := by
  refine ⟨⟨?_, ?_, ?_, ?_, fun i => ?_, fun i => ?_⟩, rfl⟩ <;> exact nofun

theorem witness_IssueLatchesCommand : State.reset.cmdState = .idle ∧ (flight 0x10).cmdState = .pending :=
  ⟨rfl, rfl⟩

/-- OVR set, and a write of 1 to it next. -/
theorem witness_OvrIsSticky :
    (match step { withHost [.transfer 0 (.write 0x0008#14 8#32)] with ovr := true } with
      | .next t => some t.ovr
      | .fault _ => none
      | .refused _ => none) = some false := by decide +kernel

theorem witness_StatusAndControlWrites : (2#32 : Word)[0] = false := by decide

/-- A reset with a transfer while a completion would else be due, and one without a transfer. -/
theorem witness_HardwareResetState :
    ({ flight 0x10 with host := [.hwReset (some (.read 0x0000#14))] } : State).host =
      .hwReset (some (.read 0x0000#14)) :: [] ∧ (withHost [.hwReset none]).host = .hwReset none :: [] := ⟨rfl, rfl⟩

theorem witness_SoftResetKeepsBuffers : State.reset.cmdState = .idle ∧ (3#32 : Word)[0] = true := by decide +kernel

/-- The boundaries of R382's table: RS_ENCODE leaves element 18 and not 19, COMPOSE the other way round. -/
theorem witness_SoftResetAbandonsCommand :
    (flight 0x10).cmdState = .pending ∧ (1#32 : Word)[0] = true ∧
    decode (flight 0x10).curCmd = .ok .rsEncode ∧ decode (flight 0x20).curCmd = .ok .compose ∧
    (18 : Fin 26).val < 19 ∧ 19 ≤ (19 : Fin 26).val := by decide +kernel

/-- A state that meets the invariant, with a command in flight, and its step. -/
theorem witness_EveryStepKeepsInvariant : (flight 0x00070303).Inv ∧ ∃ t, step (flight 0x00070303) = .next t := by
  refine ⟨?_, ?_⟩
  · constructor
    · decide +kernel
    · exact fun h => nomatch h
    · exact fun _ => rfl
    · exact fun _ => ⟨rfl, rfl, rfl⟩
    · exact fun h => nomatch h
    · exact .inl fun q => by simp [flight, State.withFetchWord, loadCommand, latchCommand, State.reset, State.resetWith]
    · exact fun _ => ⟨rfl, rfl, rfl, rfl⟩
    · exact fun h => nomatch h
    · rfl
    · decide +kernel
    · exact ⟨fun _ => ⟨rfl, rfl⟩, by decide +kernel⟩
  · obtain ⟨t, ht⟩ := exec_answers (.gfMul 3#8 7#8) (quiet (flight 0x00070303))
    refine ⟨t, ?_⟩
    rw [← ht]
    rfl

/-! ### The slow tests -/

/-- V-REN-1 under mask 3: the sample cells, and the number of black modules. -/
theorem test_render :
    after 0x330 (withCw cw1) (fun t =>
      ([(20, 20), (19, 20), (20, 19), (9, 9), (12, 0), (0, 0), (1, 1), (6, 8), (6, 9), (13, 8), (8, 8), (8, 0),
        (20, 8)].map fun p => (t.matrix.toList.getD (linear p) .unset).code.toNat,
       (colourGrid t.matrix).toList.count true)) =
      some ([2, 2, 3, 3, 2, 5, 4, 5, 4, 5, 5, 5, 5], 216) := by decide +kernel

/-- V-PEN: PENALTY after RENDER 0 on V-RS-1's codewords. -/
theorem test_penalty :
    after 0x31 { withCw cw1 with matrix := render cw1 0#3 } (fun t =>
      [t.penRun.toNat, t.penBlock.toNat, t.penFinder.toNat, t.penBalance.toNat, t.penTotal.toNat,
        t.blackCount.toNat]) = some [183, 117, 800, 0, 1100, 224] := by decide +kernel

/-- R314's example: CW_BUF and MODE_INFO. -/
theorem test_encode :
    after 0x41 (withText (chars "HELLO WORLD+-/123$%")) (fun t => (t.cwBuf, peek t .modeInfo)) =
      some (cw1, 0x7603#32) := by decide +kernel

/-- V-SEL-1. -/
theorem test_select :
    after 0x40 (withCw cw1) (fun t => (peek t .bestInfo, t.bestPenalty)) = some (0x103#32, 1080#16) := by
  decide +kernel

end Sys2Proof.Tests
end

section
/-! Hardware reset (R51, R380): the words of cleared fields, the edge as one state, and the obligation about it. -/

namespace Sys2Proof.Machine

open Sys2Proof

@[simp] theorem bitAt_false (k : Nat) : bitAt k false = 0#32 := by simp [bitAt]

/-! ### The packed words of cleared fields (R34, R36, R43, R48) -/

section
variable {t : State}

theorem peek_ctrl_of_cleared (hirqEn : t.irqEn = false) : peek t .ctrl = 0#32 := by
  simp [peek, State.ctrlWord, hirqEn]

theorem statusWord_of_cleared (hcmd : t.cmdState = .idle) (hdone : t.done = false) (herr : t.err = false)
    (hovr : t.ovr = false) (hcode : t.errCode = 0#4) : t.statusWord = 0#32 := by
  have hbusy : t.busy = false := by rw [State.busy, hcmd]; rfl
  simp [State.statusWord, hbusy, hdone, herr, hovr, hcode]

theorem peek_modeInfo_of_cleared (hmode : t.modeAlnum = false) (hvalid : t.modeValid = false)
    (hbits : t.dataBits = 0#8) : peek t .modeInfo = 0#32 := by
  simp [peek, hmode, hvalid, hbits]

theorem peek_bestInfo_of_cleared (hmask : t.bestMask = 0#3) (hvalid : t.bestValid = false) :
    peek t .bestInfo = 0#32 := by
  simp [peek, hmask, hvalid]

end

/-! ### The edge -/

/-- An edge with `rst_n` = 0 leaves R51's reset state but for the model's own fields and the bus, on which a
response stands exactly when the host made a transfer (R380). -/
theorem resetEdge_eq_resetWith (x : Option Transfer) (s : State) :
    ∃ (bus : Option BusResponse) (fresh : Nat), bus.isSome = x.isSome ∧
      resetEdge x s = { State.resetWith s.ramInit with
        host := s.host, latency := s.latency, bus := bus, fresh := fresh } := by
  cases x with
  | none => exact ⟨none, s.fresh, rfl, rfl⟩
  | some _ => exact ⟨some _, s.fresh + 1, rfl, rfl⟩

/-- Settles O56: the edge is `resetEdge` in whatever state (`step_hwReset`), which leaves the reset state
(`resetEdge_eq_resetWith`); there each scalar has its value by definition, and each array is constant. -/
theorem hardwareResetState : Obligations.HardwareResetState := by
  intro s x rest h
  obtain ⟨bus, fresh, hbus, hreset⟩ := resetEdge_eq_resetWith x { tick (quiet s) with host := rest }
  have hstep := (step_hwReset h).trans (congrArg Host.Outcome.next hreset)
  have hmaskPen (m : Fin 8) : (Vector.replicate 8 0#16)[m] = 0#16 := Vector.getElem_replicate m.isLt
  have hsynd (j : Fin 7) : (Vector.replicate 7 0#8)[j] = 0#8 := Vector.getElem_replicate j.isLt
  have hmatrix (q : Fin 441) : (Vector.replicate 441 ModuleState.unset)[q] = .unset :=
    Vector.getElem_replicate q.isLt
  have hbest (q : Fin 441) : (Vector.replicate 441 false)[q] = false := Vector.getElem_replicate q.isLt
  exact ⟨_, hstep, hbus, rfl, rfl, rfl, rfl, peek_ctrl_of_cleared rfl, rfl,
    statusWord_of_cleared rfl rfl rfl rfl rfl, rfl, rfl, rfl, peek_modeInfo_of_cleared rfl rfl rfl,
    rfl, rfl, rfl, rfl, rfl, rfl, hmaskPen, hsynd, peek_bestInfo_of_cleared rfl rfl, rfl,
    fun q => ⟨hmatrix q, hbest q⟩, rfl, rfl⟩

end Sys2Proof.Machine
end

section
/-! Pseudo-commands (R121): EXP as iterated doubling (R141, R142), the product of R152 as the schoolbook one, and
the obligation about them. -/

namespace Sys2Proof.Machine

open Sys2Proof Sys2Proof.Claims

/-! ### EXP and LOG by doubling (R141, R142) -/

theorem alphaStep_eq_double (x : Byte) : alphaStep x = double x := by
  revert x
  decide +kernel

theorem getElem_doublings (n i : Nat) (v : Byte) (h : i < (doublings n v).length) :
    (doublings n v)[i] = double^[i] v := by
  induction n generalizing i v with
  | zero => simp [doublings] at h
  | succ n ih =>
    cases i with
    | zero => rfl
    | succ i => simpa [doublings, alphaStep_eq_double] using ih i (alphaStep v) (Nat.lt_of_succ_lt_succ h)

theorem getElem_expTable (i : Nat) (h : i < 256) : expTable[i] = double^[i] 1#8 :=
  getElem_doublings 256 i 1#8 ((length_doublings 256 1#8).symm ▸ h)

/-- α has order dividing 255: EXP[255] = EXP[0]. -/
theorem isPeriodicPt_double_one : Function.IsPeriodicPt double 255 1#8 :=
  (getElem_expTable 255 (by decide)).symm.trans (by decide +kernel)

theorem expMod_eq_iterate_double (k : Nat) : expMod k = double^[k] 1#8 := by
  rw [expMod, expAt, getElem_expTable, isPeriodicPt_double_one.iterate_mod_apply]

theorem iterate_double_of_logOf {x : Byte} {a : Nat} (h : logOf x = some a) : double^[a] 1#8 = x := by
  obtain ⟨ha, hx, -⟩ := List.findIdx?_eq_some_iff_getElem.1 h
  rw [← getElem_expTable a (by simp at ha; omega)]
  simpa using hx

/-- Every nonzero element is a power of α, so it has a LOG (R142). -/
theorem exists_logOf {x : Byte} (h : x ≠ 0#8) : ∃ a, logOf x = some a := by
  have hall : ∀ x : Byte, x ≠ 0#8 → (logOf x).isSome := by decide +kernel
  exact Option.isSome_iff_exists.1 (hall x h)

/-! ### The schoolbook product -/

theorem double_xor (x y : Byte) : double (x ^^^ y) = double x ^^^ double y := by
  have hbit (p q : Bool) : (if p ^^ q then 0x1D#8 else 0#8) =
      (if p then 0x1D#8 else 0#8) ^^^ (if q then 0x1D#8 else 0#8) := by revert p q; decide
  simp only [double, BitVec.getLsbD_xor, BitVec.shiftLeft_xor_distrib, hbit]
  ac_rfl

@[simp] theorem schoolMul_zero_left (y : Byte) : schoolMul 0#8 y = 0#8 := by
  revert y
  decide +kernel

@[simp] theorem schoolMul_zero_right (x : Byte) : schoolMul x 0#8 = 0#8 := by
  simp [schoolMul, List.range_succ]

theorem schoolMul_one_left (y : Byte) : schoolMul 1#8 y = y := by
  revert y
  decide +kernel

theorem schoolMul_double_left (x y : Byte) : schoolMul (double x) y = double (schoolMul x y) := by
  simp only [schoolMul, List.foldl_map]
  refine List.foldl_hom (init := 0#8) double fun acc i => ?_
  cases y.getLsbD i
  · simp
  · simp [double_xor, ← Function.iterate_succ_apply, Function.iterate_succ_apply']

theorem schoolMul_iterate_double (a : Nat) (y : Byte) : schoolMul (double^[a] 1#8) y = double^[a] y := by
  have h : Function.Semiconj (schoolMul · y) double double := (schoolMul_double_left · y)
  simpa [schoolMul_one_left] using h.iterate_right a 1#8

theorem gfMul_eq_schoolMul (x y : Byte) : gfMul x y = schoolMul x y := by
  by_cases hx : x = 0#8
  · simp [hx]
  by_cases hy : y = 0#8
  · simp [hy]
  obtain ⟨a, ha⟩ := exists_logOf hx
  obtain ⟨b, hb⟩ := exists_logOf hy
  calc gfMul x y = double^[a + b] 1#8 := by rw [gfMul_of_logs ha hb, expMod_eq_iterate_double]
    _ = double^[a] y := by rw [Function.iterate_add_apply, iterate_double_of_logOf hb]
    _ = schoolMul x y := by rw [← schoolMul_iterate_double, iterate_double_of_logOf ha]

theorem gfPow_two {x : Byte} (h : x ≠ 0#8) : gfPow x 2#8 = some (gfMul x x) := by
  obtain ⟨a, ha⟩ := exists_logOf h
  simp [gfPow, ha, gfMul_of_logs ha ha, Nat.mul_two]

/-! ### The commands the pseudo-commands stand for -/

theorem exec_gfAdd (x y : Byte) (s : State) :
    exec (.gfAdd x y) s = .next { s with result := x ^^^ y, done := true, cmdState := .idle } := rfl

theorem exec_gfSub (x y : Byte) (s : State) :
    exec (.gfSub x y) s = .next { s with result := x ^^^ y, done := true, cmdState := .idle } := rfl

theorem exec_gfPow_of_eq_some {x e r : Byte} (s : State) (h : gfPow x e = some r) :
    exec (.gfPow x e) s = .next { s with result := r, done := true, cmdState := .idle } := by
  rw [exec_eq_finish, perform, h]
  rfl

theorem exec_gfExp (i : Byte) (s : State) :
    exec (.gfExp i) s = .next { s with result := double^[i.toNat] 1#8, done := true, cmdState := .idle } := by
  rw [← getElem_expTable i.toNat i.isLt]
  rfl

/-- Settles O15: 0 is neutral for XOR, a square is the schoolbook one (`gfMul_eq_schoolMul`), and EXP is iterated
doubling. -/
theorem pseudoCommandEffects : Obligations.PseudoCommandEffects := by
  intro x s
  refine ⟨rfl, rfl, rfl, rfl, rfl, ?mov, ?neg, ?sqr, exec_gfExp 0#8 s, exec_gfExp x s⟩
  case mov => rw [Pseudo.expand, exec_gfAdd, BitVec.xor_zero]
  case neg => rw [Pseudo.expand, exec_gfSub, BitVec.zero_xor]
  case sqr => exact fun h => exec_gfPow_of_eq_some s (gfMul_eq_schoolMul x x ▸ gfPow_two h)

end Sys2Proof.Machine
end

section
/-! Issue (R117): a write to CMD, by `cmd_state`, and the obligation about it. -/

namespace Sys2Proof.Machine

open Sys2Proof

theorem unlessBusy_idle {s : State} (h : s.cmdState = .idle) (write : State → State) :
    unlessBusy s write = write s := by simp [unlessBusy, State.busy, h]

theorem unlessBusy_pending {s : State} (h : s.cmdState = .pending) (write : State → State) :
    unlessBusy s write = { s with ovr := true } := by simp [unlessBusy, State.busy, h]

/-- A write to CMD issues its word unless a command is in flight (R117, R390). -/
theorem hostTransfer_write_cmd (w : Word) (s : State) :
    hostTransfer (.write 0x000C#14 w) s = respond ⟨none, false⟩ (unlessBusy s (issue w)) :=
  hostWrite_addr .cmd w s

/-- Settles O53: an idle unit performs `issue` (`issue_eq`), one with a command in flight only sets OVR. -/
theorem issueLatchesCommand : Obligations.IssueLatchesCommand := by
  intro s w
  rw [hostTransfer_write_cmd]
  refine ⟨fun hidle => ⟨none, s.latency.headD 0, s.latency.tail, ?_⟩, fun hpending => ⟨none, ?_⟩⟩
  · rw [unlessBusy_idle hidle, issue_eq, respond]
  · rw [unlessBusy_pending hpending, respond]

end Sys2Proof.Machine
end

section
/-! Laws of the field operations (R152 to R157): EXP reads its index modulo 255, LOG inverts it, and each operation
is that arithmetic on the LOGs of its operands. -/

namespace Sys2Proof.Machine

open Sys2Proof Sys2Proof.Claims

/-! ### EXP and LOG (R141, R142) -/

theorem expMod_congr {j k : Nat} (h : j % 255 = k % 255) : expMod j = expMod k := by simp only [expMod, h]

/-- EXP[255] = EXP[0], so reading EXP directly agrees with reading it modulo 255 (R141). -/
theorem expAt_eq_expMod (i : Nat) (h : i < 256) : expAt i h = expMod i := by
  rw [expAt, getElem_expTable, expMod_eq_iterate_double]

theorem expMod_zero : expMod 0 = 1#8 := by decide +kernel

theorem expMod_of_logOf {x : Byte} {a : Nat} (h : logOf x = some a) : expMod a = x :=
  (expMod_eq_iterate_double a).trans (iterate_double_of_logOf h)

theorem logOf_lt {x : Byte} {a : Nat} (h : logOf x = some a) : a < 255 := by
  obtain ⟨ha, -, -⟩ := List.findIdx?_eq_some_iff_getElem.1 h
  simp at ha
  omega

/-- The entries EXP[0..254] are distinct: each is found first at its own index (R142). -/
theorem logOf_expMod (k : Nat) : logOf (expMod k) = some (k % 255) := by
  have hall : ∀ i : Fin 255, logOf (expAt i) = some i.val := by decide +kernel
  exact hall ⟨k % 255, Nat.mod_lt k (by decide)⟩

theorem logOf_one : logOf 1#8 = some 0 := by rw [← expMod_zero, logOf_expMod]

/-- 0 is no entry of EXP: it would have a LOG (R143). -/
theorem expMod_ne_zero (k : Nat) : expMod k ≠ 0#8 := by
  intro h
  have hlog := logOf_expMod k
  rw [h, logOf_zero] at hlog
  cases hlog

/-! ### Multiplication (R152) -/

theorem gfMul_comm (x y : Byte) : gfMul x y = gfMul y x := by
  unfold gfMul
  cases logOf x <;> cases logOf y <;> simp [Nat.add_comm]

theorem gfMul_one_left (y : Byte) : gfMul 1#8 y = y := by rw [gfMul_eq_schoolMul, schoolMul_one_left]

theorem gfMul_one_right (x : Byte) : gfMul x 1#8 = x := by rw [gfMul_comm, gfMul_one_left]

/-! ### Division (R153) -/

theorem gfDiv_zero_left {y : Byte} (hy : y ≠ 0#8) : gfDiv 0#8 y = some 0#8 := by
  obtain ⟨b, hb⟩ := exists_logOf hy
  simp [gfDiv, hb]

theorem exists_gfDiv (x : Byte) {y : Byte} (hy : y ≠ 0#8) : ∃ r, gfDiv x y = some r := by
  by_cases hx : x = 0#8
  · exact ⟨0#8, by rw [hx, gfDiv_zero_left hy]⟩
  · obtain ⟨a, ha⟩ := exists_logOf hx
    obtain ⟨b, hb⟩ := exists_logOf hy
    exact ⟨_, gfDiv_of_logs ha hb⟩

theorem gfDiv_self {x : Byte} (hx : x ≠ 0#8) : gfDiv x x = some 1#8 := by
  obtain ⟨a, ha⟩ := exists_logOf hx
  rw [gfDiv_of_logs ha ha, ← expMod_zero, expMod_congr (show (a + 255 - a) % 255 = 0 % 255 by omega)]

theorem gfDiv_one (x : Byte) : gfDiv x 1#8 = some x := by
  by_cases hx : x = 0#8
  · rw [hx, gfDiv_zero_left (by decide)]
  · obtain ⟨a, ha⟩ := exists_logOf hx
    rw [gfDiv_of_logs ha logOf_one, expMod_congr (show (a + 255 - 0) % 255 = a % 255 by omega), expMod_of_logOf ha]

/-! ### Power (R154) -/

theorem gfPow_of_logOf {x : Byte} {a : Nat} (h : logOf x = some a) (e : Byte) :
    gfPow x e = some (expMod (a * e.toNat)) := by simp [gfPow, h]

/-- A power is 1 where its exponent is a multiple of 255 (R154). -/
theorem gfPow_eq_one {x e : Byte} {a : Nat} (h : logOf x = some a) (hdvd : 255 ∣ a * e.toNat) :
    gfPow x e = some 1#8 := by
  rw [gfPow_of_logOf h, expMod_congr (k := 0) (Nat.mod_eq_zero_of_dvd hdvd), expMod_zero]

theorem gfPow_one_right {x : Byte} (hx : x ≠ 0#8) : gfPow x 1#8 = some x := by
  obtain ⟨a, ha⟩ := exists_logOf hx
  simp [gfPow_of_logOf ha, expMod_of_logOf ha]

/-! ### Inverse and logarithm (R155, R157) -/

theorem gfInv_eq_expAt {x : Byte} {a : Nat} (h : logOf x = some a) : gfInv x = some (expAt (255 - a)) := by
  simp [gfInv, h]

theorem gfInv_eq_expMod {x : Byte} {a : Nat} (h : logOf x = some a) : gfInv x = some (expMod (255 - a)) := by
  rw [gfInv_eq_expAt h, expAt_eq_expMod]

/-- The inverse is an involution: its LOG is −LOG[x] modulo 255 (R155). -/
theorem gfInv_gfInv {x r : Byte} (h : gfInv x = some r) : gfInv r = some x := by
  have hx : x ≠ 0#8 := by
    rintro rfl
    simp at h
  obtain ⟨a, ha⟩ := exists_logOf hx
  have hlt := logOf_lt ha
  rw [gfInv_eq_expMod ha] at h
  obtain rfl := Option.some.inj h
  rw [gfInv_eq_expMod (logOf_expMod (255 - a)),
    expMod_congr (show (255 - (255 - a) % 255) % 255 = a % 255 by omega), expMod_of_logOf ha]

theorem gfLog_of_logOf {x : Byte} {a : Nat} (h : logOf x = some a) : gfLog x = some (BitVec.ofNat 8 a) := by
  simp [gfLog, h]

end Sys2Proof.Machine
end

section
/-! The GF commands (R150 to R157): how a command that may fail completes, and the obligations about them. -/

namespace Sys2Proof.Machine

open Sys2Proof Sys2Proof.Claims

/-! ### Completion of a GF command -/

theorem exec_gfMul (x y : Byte) (s : State) :
    exec (.gfMul x y) s = .next { s with result := gfMul x y, done := true, cmdState := .idle } := rfl

section
variable {i : Instr} {s : State} {r : Option Byte}

/-- A GF command with a result writes it to RESULT and completes. -/
theorem exec_of_performGf_some {e : ErrKind} {v : Byte} (hi : perform i s = performGf e r s) (hr : r = some v) :
    exec i s = .next { s with result := v, done := true, cmdState := .idle } := by
  rw [exec_eq_finish, hi, hr]
  rfl

/-- A GF command without a result records its error with the command word, and writes nothing else (R341). -/
theorem exec_of_performGf_none (e : ErrKind) (hi : perform i s = performGf e r s) (hr : r = none) :
    exec i s = .next { s with
      err := true, errCode := e.code, errInfo := s.curCmd, done := true, cmdState := .idle } := by
  rw [exec_eq_finish, hi, hr]
  rfl

end

/-! ### The obligations -/

/-- Settles O7: the fields of the packed words are OP, x and y, and both commands write the exclusive-or. -/
theorem gfAddAndGfSubAreXor : Obligations.GfAddAndGfSubAreXor := fun x y s =>
  ⟨decode_packWord 0x01#8 x y, decode_packWord 0x02#8 x y, exec_gfAdd x y s, exec_gfSub x y s⟩

/-- Settles O8: the result is `gfMul`, which adds LOGs (`gfMul_of_logs`) and is commutative with identity 1. -/
theorem gfMulByLogTables : Obligations.GfMulByLogTables := by
  intro x y s
  refine ⟨decode_packWord 0x03#8 x y, gfMul x y, exec_gfMul x y s, ?zero, ?logs, ?oneLeft, ?oneRight,
    ?written, ?comm⟩
  case zero =>
    rintro (rfl | rfl)
    · exact gfMul_zero_left y
    · exact gfMul_zero_right x
  case logs =>
    intro a b ha hb
    have hlta := logOf_lt ha
    have hltb := logOf_lt hb
    exact ⟨by omega, gfMul_of_logs ha hb⟩
  case oneLeft =>
    rintro rfl
    exact gfMul_one_left y
  case oneRight =>
    rintro rfl
    exact gfMul_one_right x
  case written =>
    rintro rfl rfl
    decide +kernel
  case comm => rw [exec_gfMul, exec_gfMul, gfMul_comm]

/-- Settles O10: `gfDiv` has no value exactly at y = 0, and elsewhere subtracts LOGs modulo 255. -/
theorem gfDivByLogTables : Obligations.GfDivByLogTables := by
  intro x y s
  refine ⟨decode_packWord 0x04#8 x y, ?error, fun hy => ?value⟩
  case error =>
    intro hy
    exact exec_of_performGf_none .divisionByZero rfl (by rw [hy, gfDiv_zero])
  case value =>
    obtain ⟨r, hr⟩ := exists_gfDiv x hy
    have heq {v : Byte} : gfDiv x y = some v → r = v := Option.mem_unique hr
    refine ⟨r, exec_of_performGf_some rfl hr, ?zero, fun a b ha hb => heq (gfDiv_of_logs ha hb), ?self, ?byOne,
      ?written⟩
    case zero =>
      rintro rfl
      exact heq (gfDiv_zero_left hy)
    case self =>
      rintro hx rfl
      exact heq (gfDiv_self hx)
    case byOne =>
      rintro rfl
      exact heq (gfDiv_one x)
    case written =>
      rintro rfl rfl
      exact heq (by decide +kernel)

/-- Settles O11: `gfPow` has no value exactly at x = 0, and elsewhere multiplies the LOG by e modulo 255. -/
theorem gfPowByLogTables : Obligations.GfPowByLogTables := by
  intro x e s
  refine ⟨decode_packWord 0x05#8 x e, ?error, fun hx => ?value⟩
  case error =>
    intro hx
    exact exec_of_performGf_none .powOfZero rfl (by rw [hx, gfPow_zero])
  case value =>
    obtain ⟨a, ha⟩ := exists_logOf hx
    have hr := gfPow_of_logOf ha e
    have heq {v : Byte} : gfPow x e = some v → expMod (a * e.toNat) = v := Option.mem_unique hr
    refine ⟨_, exec_gfPow_of_eq_some s hr, fun b hb => ⟨?bound, heq (gfPow_of_logOf hb e)⟩, ?exponentZero,
      ?exponentOne, ?exponentPeriod, ?baseOne, ?written⟩
    case bound =>
      calc b * e.toNat ≤ 254 * 255 :=
            Nat.mul_le_mul (Nat.le_of_lt_succ (logOf_lt hb)) (Nat.le_of_lt_succ e.isLt)
        _ = 64770 := rfl
    case exponentZero =>
      rintro rfl
      exact heq (gfPow_eq_one ha (by simp))
    case exponentOne =>
      rintro rfl
      exact heq (gfPow_one_right hx)
    case exponentPeriod =>
      rintro rfl
      exact heq (gfPow_eq_one ha (Nat.dvd_mul_left 255 a))
    case baseOne =>
      rintro rfl
      exact heq (gfPow_eq_one logOf_one (by simp))
    case written =>
      rintro rfl rfl
      exact heq (by decide +kernel)

/-- Settles O12: `gfInv` has no value exactly at x = 0, and elsewhere negates the LOG, so it is an involution
(`gfInv_gfInv`). -/
theorem gfInvByLogTables : Obligations.GfInvByLogTables := by
  intro x s
  refine ⟨decode_packWord 0x06#8 x 0#8, ?error, fun hx => ?value⟩
  case error =>
    intro hx
    exact exec_of_performGf_none .inverseOfZero rfl (by rw [hx, gfInv_zero])
  case value =>
    obtain ⟨a, ha⟩ := exists_logOf hx
    have hr := gfInv_eq_expMod ha
    have heq {v : Byte} : gfInv x = some v → expMod (255 - a) = v := Option.mem_unique hr
    refine ⟨_, exec_of_performGf_some rfl hr, fun b hb => heq (gfInv_eq_expAt hb),
      ⟨x, exec_of_performGf_some rfl (gfInv_gfInv hr), rfl⟩, ?one, ?written⟩
    case one =>
      rintro rfl
      exact heq (by decide +kernel)
    case written =>
      rintro rfl
      exact heq (by decide +kernel)

/-- Settles O13: both commands read their table; 0 is no entry of EXP (`expMod_ne_zero`), and EXP of a LOG is the
element itself. -/
theorem gfExpAndGfLogReadTables : Obligations.GfExpAndGfLogReadTables := by
  refine ⟨fun i s => ⟨decode_packWord 0x07#8 i 0#8, rfl, ?nonzero⟩, by decide +kernel, by decide +kernel,
    by decide +kernel, fun x s => ⟨decode_packWord 0x08#8 x 0#8, ?error, fun hx => ?value⟩⟩
  case nonzero =>
    have hexp : expTable[i.toNat] = expMod i.toNat := expAt_eq_expMod i.toNat i.isLt
    exact hexp ▸ expMod_ne_zero i.toNat
  case error =>
    intro hx
    exact exec_of_performGf_none .logOfZero rfl (by rw [hx, gfLog_zero])
  case value =>
    obtain ⟨a, ha⟩ := exists_logOf hx
    have hlt := logOf_lt ha
    have hexp : double^[(BitVec.ofNat 8 a).toNat] 1#8 = x := by
      rw [BitVec.toNat_ofNat, Nat.mod_eq_of_lt (by omega), iterate_double_of_logOf ha]
    have heq {b : Nat} : logOf x = some b → a = b := Option.mem_unique ha
    refine ⟨a, ha, Nat.le_of_lt_succ hlt, exec_of_performGf_some rfl (gfLog_of_logOf ha), hexp ▸ exec_gfExp _ s,
      ?one, ?written⟩
    case one =>
      rintro rfl
      exact heq logOf_one
    case written =>
      rintro rfl
      exact heq (by decide +kernel)

end Sys2Proof.Machine
end

section
/-! RENDER (R250 to R252): the bit stream by index, the rendered matrix by cell, the traversal against the
placement table, and the obligation about them. -/

namespace Sys2Proof.Machine

open Sys2Proof

/-! ### BITS by index (R41, R251) -/

@[simp] theorem length_bin (w v : Nat) : (bin w v).length = w := by simp [bin]

theorem getD_bin_toNat {w : Nat} (b : BitVec w) (j : Nat) : (bin w b.toNat).getD j false = b.getMsbD j := by
  by_cases hj : j < w <;> simp [bin, BitVec.getMsbD, BitVec.getLsbD, hj]

/-- Bit `k` of a byte list's bits lies in byte `k / 8`: the first byte gives the first eight. -/
theorem getD_flatMap_bin (bs : List Byte) (k : Nat) :
    (bs.flatMap fun b => bin 8 b.toNat).getD k false = (bs.getD (k / 8) 0#8).getMsbD (k % 8) := by
  induction bs generalizing k with
  | nil => simp
  | cons b bs ih =>
    rw [List.flatMap_cons]
    by_cases hk : k < 8
    · rw [List.getD_append _ _ _ _ (by simpa using hk), getD_bin_toNat, Nat.div_eq_of_lt hk, Nat.mod_eq_of_lt hk]
      rfl
    · obtain ⟨j, rfl⟩ := Nat.exists_eq_add_of_le (Nat.le_of_not_lt hk)
      rw [List.getD_append_right _ _ _ _ (by simp), length_bin, Nat.add_sub_cancel_left, ih,
        Nat.add_div_left j (by decide), Nat.add_mod_left, List.getD_cons_succ]

theorem getD_codewordBits (cw : Vector Byte 26) (k : Nat) : (codewordBits cw).getD k false = streamBit cw k :=
  getD_flatMap_bin cw.toList k

/-! ### The rendered matrix by cell (R252) -/

section
variable (cw : Vector Byte 26) (m : BitVec 3)

theorem getElem_modulesFrom (q : Nat) (ks : List Nat) (i : Nat) (h : i < (modulesFrom cw m q ks).length) :
    (modulesFrom cw m q ks)[i] = moduleAt cw m ((q + i) / 21) ((q + i) % 21) (ks.getD i 0) := by
  induction ks generalizing q i with
  | nil => exact absurd h (Nat.not_lt_zero i)
  | cons k ks ih =>
    cases i with
    | zero => rfl
    | succ i =>
      have hi : i < (modulesFrom cw m (q + 1) ks).length := Nat.lt_of_succ_lt_succ h
      simpa [modulesFrom, Nat.add_assoc, Nat.add_comm 1] using ih (q + 1) i hi

theorem getElem_render (q : Nat) (h : q < 441) :
    (render cw m)[q] = moduleAt cw m (q / 21) (q % 21) (placement.getD q 0) := by
  have hlist := getElem_modulesFrom cw m 0 placement q (by rwa [length_modulesFrom, length_placement])
  rwa [Nat.zero_add] at hlist

theorem getElem_render_cell (r c : Nat) (hr : r < 21) (hc : c < 21) :
    (render cw m)[21 * r + c] = moduleAt cw m r c (placement.getD (linear (r, c)) 0) := by
  rw [getElem_render, show (21 * r + c) / 21 = r by omega, show (21 * r + c) % 21 = c by omega]
  rfl

variable {cw m} {r c k : Nat}

theorem moduleAt_of_reserved {black : Bool} (h : structAt m r c = some black) :
    moduleAt cw m r c k = reservedModule black := by simp [moduleAt, h]

theorem moduleAt_of_free (h : structAt m r c = none) :
    moduleAt cw m r c k = dataModule (xor (streamBit cw k) (maskFn m r c)) := by simp [moduleAt, h]

theorem moduleAt_ne_unset : moduleAt cw m r c k ≠ .unset := by
  cases h : structAt m r c with
  | some black => cases black <;> simp [moduleAt_of_reserved h, reservedModule]
  | none =>
    rw [moduleAt_of_free h]
    cases xor (streamBit cw k) (maskFn m r c) <;> simp [dataModule]

end

/-! ### The traversal (R250) -/

/-- The masks reserve the same cells: a mask enters STRUCT only by the colour of a format cell (R248). -/
theorem isSome_structAt_congr (m m' : BitVec 3) (r c : Nat) :
    (structAt m r c).isSome = (structAt m' r c).isSome := by
  simp [structAt, Option.isSome_or]

theorem length_order : order.length = 208 := by simpa using congrArg List.length order_placement

section
variable {p : Coord}

/-- ORDER holds no reserved cell, for any mask: it is filtered by mask 0. -/
theorem structAt_of_mem_order (m : BitVec 3) (h : p ∈ order) : structAt m p.1 p.2 = none := by
  have hfree : (structAt 0#3 p.1 p.2).isNone := (List.mem_filter.1 h).2
  rw [← Option.not_isSome_iff_eq_none, isSome_structAt_congr m 0#3]
  simpa using hfree

theorem placement_of_order {k : Nat} (h : order[k]? = some p) : placement.getD (linear p) 0 = k := by
  have hk : k < 208 := length_order ▸ (List.getElem?_eq_some_iff.1 h).1
  have hentry := congrArg (·[k]?) order_placement
  simpa only [List.getElem?_map, h, List.getElem?_range hk, Option.map_some, Option.some.injEq] using hentry

end

/-! ### The command -/

theorem exec_render (m : BitVec 3) (s : State) :
    exec (.render m) s = .next { s with matrix := render s.cwBuf m, done := true, cmdState := .idle } := rfl

/-- Settles O27: each element is `moduleAt` its cell, and at the k-th cell of ORDER, which no mask reserves, the
placement table holds k (`placement_of_order`). -/
theorem renderPlacesEveryModule : Obligations.RenderPlacesEveryModule := by
  intro m s
  refine ⟨render s.cwBuf m, exec_render m s, ?reserved, ?noneUnset, length_order, ?data⟩
  case reserved =>
    intro r c hr hc black hblack
    rw [getElem_render_cell s.cwBuf m r c hr hc, moduleAt_of_reserved hblack]
    rfl
  case noneUnset =>
    intro q
    rw [Fin.getElem_fin, getElem_render s.cwBuf m q q.isLt]
    exact moduleAt_ne_unset
  case data =>
    intro k r c hr hc hk
    have hfree : structAt m r c = none := structAt_of_mem_order m (List.mem_of_getElem? hk)
    refine ⟨hfree, ?_⟩
    rw [getElem_render_cell s.cwBuf m r c hr hc, placement_of_order hk, moduleAt_of_free hfree, getD_codewordBits]
    rfl

end Sys2Proof.Machine
end

section
/-! The rules of the penalty scanner by their index forms (R280 to R284): the 42 lines of a grid, the 400 windows and
the 15 positions of a line. -/

namespace Sys2Proof.Machine

open Sys2Proof Sys2Proof.Claims

/-! ### Sums over an index -/

theorem sumTo_succ_left (n : Nat) (f : Nat → Nat) : sumTo (n + 1) f = f 0 + sumTo n fun i => f (i + 1) := by
  simp [sumTo, List.range_succ_eq_map, Function.comp_def]

theorem sumTo_congr {n : Nat} {f g : Nat → Nat} (h : ∀ i < n, f i = g i) : sumTo n f = sumTo n g :=
  congrArg List.sum (List.map_congr_left fun i hi => h i (List.mem_range.1 hi))

theorem sumTo_le {n b : Nat} {f : Nat → Nat} (h : ∀ i < n, f i ≤ b) : sumTo n f ≤ n * b := by
  have hsum := List.sum_le_card_nsmul ((List.range n).map f) b (by simpa using h)
  simpa [sumTo] using hsum

/-! ### The 42 lines (R280) -/

theorem rowsOf_eq_map (w n : Nat) (ks : List Bool) :
    rowsOf w n ks = (List.range n).map fun r => (ks.drop (w * r)).take w := by
  induction n generalizing ks with
  | zero => rfl
  | succ n ih => simp [rowsOf, ih, List.range_succ_eq_map, Nat.mul_succ, Nat.add_comm w]

section
variable (k : Vector Bool 441)

@[simp] theorem length_rowLine (r : Nat) : (rowLine k r).length = 21 := by simp [rowLine]

@[simp] theorem length_columnLine (c : Nat) : (columnLine k c).length = 21 := by simp [columnLine]

theorem gridRows_eq : gridRows k = (List.range 21).map (rowLine k) := by
  rw [gridRows, rowsOf_eq_map]
  refine List.map_congr_left fun r hr => ?_
  have hr := List.mem_range.1 hr
  refine List.ext_getElem ?length fun c _ hc => ?cell
  case length =>
    simp only [List.length_take, List.length_drop, Vector.length_toList, length_rowLine]
    omega
  case cell =>
    have hc : c < 21 := by simpa using hc
    have hcell : 21 * r + c < 441 := by omega
    simp [rowLine, colourAt, hcell]

theorem columnsOf_gridRows : columnsOf (gridRows k) = (List.range 21).map (columnLine k) := by
  rw [columnsOf, gridRows_eq]
  refine List.map_congr_left fun c hc => ?_
  have hc := List.mem_range.1 hc
  simp [columnLine, rowLine, hc]

/-- A cost summed over the scanner's 42 lines. -/
theorem sum_map_linesOf_gridRows (cost : List Bool → Nat) :
    ((linesOf (gridRows k)).map cost).sum = overLines cost k := by
  rw [linesOf, columnsOf_gridRows, gridRows_eq]
  simp [overLines, sumTo, Function.comp_def]

end

/-! ### Rule 2 (R282) -/

theorem blockCostOf_map_range (n : Nat) (u v : Nat → Bool) :
    blockCostOf ((List.range (n + 1)).map u) ((List.range (n + 1)).map v) =
      sumTo n fun c => if u c = u (c + 1) ∧ u (c + 1) = v c ∧ v c = v (c + 1) then 3 else 0 := by
  induction n generalizing u v with
  | zero => rfl
  | succ n ih =>
    rw [sumTo_succ_left, ← ih]
    simp [List.range_succ_eq_map, blockCostOf, Function.comp_def]

theorem blockCost_map_range (n : Nat) (rows : Nat → List Bool) :
    blockCost ((List.range (n + 1)).map rows) = sumTo n fun r => blockCostOf (rows r) (rows (r + 1)) := by
  induction n generalizing rows with
  | zero => rfl
  | succ n ih =>
    rw [sumTo_succ_left, ← ih]
    simp [List.range_succ_eq_map, blockCost, Function.comp_def]

theorem blockCost_gridRows (k : Vector Bool 441) : blockCost (gridRows k) = windowCost k := by
  rw [gridRows_eq, blockCost_map_range]
  exact sumTo_congr fun r _ => blockCostOf_map_range 20 (colourAt k r) (colourAt k (r + 1))

/-! ### Rule 3 (R283) -/

theorem white_map_range (line : Nat → Bool) (q : Int) :
    white ((List.range 21).map line) q = whiteAt line q := by
  by_cases hq : 20 < q
  · simp [white, whiteAt, hq]
  · have hlt : q.toNat < 21 := by omega
    simp [white, whiteAt, hlt]

theorem sideCost_map_range (line : Nat → Bool) (q : Int) :
    sideCost ((List.range 21).map line) q =
      if whiteAt line q ∧ whiteAt line (q + 1) ∧ whiteAt line (q + 2) ∧ whiteAt line (q + 3) then 40 else 0 := by
  simp [sideCost, white_map_range, and_assoc]

theorem take_drop_map_range (line : Nat → Bool) {p : Nat} (hp : p < 15) :
    (((List.range 21).map line).drop p).take 7 = (List.range 7).map fun j => line (p + j) := by
  refine List.ext_getElem ?length fun j _ _ => ?entry
  case length =>
    simp only [List.length_take, List.length_drop, List.length_map, List.length_range]
    omega
  case entry => simp

theorem finderCostAt_map_range (line : Nat → Bool) {p : Nat} (hp : p < 15) :
    finderCostAt ((List.range 21).map line) p = finderAtCost line p := by
  have hoccurs : ((List.range 7).map fun j => line (p + j)) = finderSequence ↔
      line p ∧ ¬ line (p + 1) ∧ line (p + 2) ∧ line (p + 3) ∧ line (p + 4) ∧ ¬ line (p + 5) ∧
        line (p + 6) := by
    simp [List.range_succ_eq_map, finderSequence]
  simp only [finderCostAt, finderAtCost, take_drop_map_range line hp, hoccurs, sideCost_map_range]
  ring_nf

theorem lineFinderCost_map_range (line : Nat → Bool) :
    lineFinderCost ((List.range 21).map line) = sumTo 15 (finderAtCost line) :=
  sumTo_congr fun _ hp => finderCostAt_map_range line hp

theorem overLines_lineFinderCost (k : Vector Bool 441) : overLines lineFinderCost k = finderIndexCost k := by
  simp [overLines, finderIndexCost, rowLine, columnLine, lineFinderCost_map_range]

end Sys2Proof.Machine
end

section
/-! The score of a grid: its fields by the index forms (R280 to R284), rule 4's arithmetic, the bounds of R286, and the
obligations about them. -/

namespace Sys2Proof.Machine

open Sys2Proof Sys2Proof.Claims

/-! ### The score, field by field -/

section
variable (k : Vector Bool 441)

theorem scoreGrid_run : (scoreGrid k).run = overLines lineRunCost k := sum_map_linesOf_gridRows k lineRunCost

theorem scoreGrid_block : (scoreGrid k).block = windowCost k := blockCost_gridRows k

theorem scoreGrid_finder_eq_overLines : (scoreGrid k).finder = overLines lineFinderCost k :=
  sum_map_linesOf_gridRows k lineFinderCost

theorem scoreGrid_finder : (scoreGrid k).finder = finderIndexCost k := by
  rw [scoreGrid_finder_eq_overLines, overLines_lineFinderCost]

theorem scoreGrid_black : (scoreGrid k).black = (k.toList.filter id).length := by
  simp [scoreGrid, List.count, List.countP_eq_length_filter, Function.id_def]

theorem scoreGrid_balance : (scoreGrid k).balance = balanceCost (scoreGrid k).black := rfl

end

/-! ### Rule 4 (R284) -/

theorem natAbs_sub_eq_dist (a b : Nat) : ((a : Int) - b).natAbs = dist a b := by
  unfold dist
  omega

/-- Rule 4 between the multiple of 5 at or below the percentage and the next one. -/
theorem balanceCost_brackets (b : Nat) : ∃ lower upper : Nat,
    lower % 5 = 0 ∧ lower ≤ blackPercent b ∧ blackPercent b < upper ∧ upper = lower + 5 ∧
      balanceCost b = 10 * min (dist (lower / 5) 10) (dist (upper / 5) 10) := by
  refine ⟨blackPercent b - blackPercent b % 5, _, by omega, Nat.sub_le _ _, by omega, rfl, ?_⟩
  rw [← natAbs_sub_eq_dist, ← natAbs_sub_eq_dist]
  rfl

/-- The percentage is within less than one half of 100·b/441: a tie 200·b = 441·(2·k + 1) would make an even number
equal to an odd one. -/
theorem blackPercent_is_nearest (b : Nat) :
    2 * (100 * b) < 441 * (2 * blackPercent b + 1) ∧ 441 * (2 * blackPercent b) < 2 * (100 * b) + 441 := by
  unfold blackPercent
  omega

/-! ### Bounds (R286) -/

/-- A run of `n` modules costs at most `n - 2`, and each further run of the line brings at least one module and costs
at most two less than it brings. -/
theorem runCostFrom_le (c : Bool) (n : Nat) (bs : List Bool) : runCostFrom c n bs ≤ n + bs.length - 2 := by
  induction bs generalizing c n with
  | nil =>
    simp only [runCostFrom, runCost, List.length_nil]
    split <;> omega
  | cons b bs ih =>
    rw [runCostFrom, List.length_cons]
    split
    · have := ih c (n + 1)
      omega
    · have hrest := ih b 1
      have hrun : runCost n ≤ n - 2 := by unfold runCost; split <;> omega
      omega

theorem lineRunCost_le (line : List Bool) : lineRunCost line ≤ line.length - 2 := by
  cases line with
  | nil => exact Nat.zero_le _
  | cons b bs =>
    have := runCostFrom_le b 1 bs
    rw [List.length_cons, lineRunCost]
    omega

theorem sideCost_le (line : List Bool) (q : Int) : sideCost line q ≤ 40 := by
  unfold sideCost
  split <;> decide

theorem finderCostAt_le (line : List Bool) (p : Nat) : finderCostAt line p ≤ 80 := by
  unfold finderCostAt
  split
  · exact Nat.add_le_add (sideCost_le line _) (sideCost_le line _)
  · decide

theorem lineFinderCost_le (line : List Bool) : lineFinderCost line ≤ 1200 :=
  sumTo_le (n := 15) fun p _ => finderCostAt_le line p

theorem balanceCost_le {b : Nat} (h : b ≤ 441) : balanceCost b ≤ 100 := by
  obtain ⟨lower, upper, -, hlower, -, -, hcost⟩ := balanceCost_brackets b
  have hpercent : blackPercent b ≤ 100 := by unfold blackPercent; omega
  have hdist : dist (lower / 5) 10 ≤ 10 := by unfold dist; omega
  omega

section
variable (k : Vector Bool 441)

theorem overLines_le {cost : List Bool → Nat} {b : Nat} (h : ∀ line, line.length = 21 → cost line ≤ b) :
    overLines cost k ≤ 42 * b := by
  have hrows := sumTo_le (n := 21) fun r _ => h (rowLine k r) (length_rowLine k r)
  have hcolumns := sumTo_le (n := 21) fun c _ => h (columnLine k c) (length_columnLine k c)
  unfold overLines
  omega

theorem scoreGrid_run_le : (scoreGrid k).run ≤ 798 := by
  rw [scoreGrid_run]
  exact overLines_le k (b := 19) fun line hline => by simpa [hline] using lineRunCost_le line

theorem scoreGrid_block_le : (scoreGrid k).block ≤ 1200 := by
  rw [scoreGrid_block]
  exact sumTo_le (b := 60) fun r _ => sumTo_le (n := 20) (b := 3) fun c _ => by split <;> decide

theorem scoreGrid_finder_le : (scoreGrid k).finder ≤ 50400 := by
  rw [scoreGrid_finder_eq_overLines]
  exact overLines_le k fun line _ => lineFinderCost_le line

theorem scoreGrid_black_le : (scoreGrid k).black ≤ 441 := by
  rw [scoreGrid_black]
  exact (List.length_filter_le id k.toList).trans_eq k.length_toList

theorem scoreGrid_balance_le : (scoreGrid k).balance ≤ 100 :=
  (scoreGrid_balance k).trans_le (balanceCost_le (scoreGrid_black_le k))

theorem scoreGrid_total_le : (scoreGrid k).total ≤ 52498 := by
  have hrun := scoreGrid_run_le k
  have hblock := scoreGrid_block_le k
  have hfinder := scoreGrid_finder_le k
  have hbalance := scoreGrid_balance_le k
  unfold Score.total
  omega

end

/-! ### The obligations -/

/-- Settles O31: the two multiples of 5 are those of `balanceCost_brackets`, and the percentage is the nearest integer
(`blackPercent_is_nearest`). -/
theorem balanceRule : Obligations.BalanceRule := by
  refine ⟨fun k => ?brackets, fun b _ => blackPercent_is_nearest b, by decide⟩
  obtain ⟨lower, upper, hbrackets⟩ := balanceCost_brackets (scoreGrid k).black
  exact ⟨_, lower, upper, scoreGrid_black k, scoreGrid_black_le k, hbrackets⟩

/-- Settles O32: the bounds hold field by field, and the two bound cases are evaluated. -/
theorem penaltyValuesFit : Obligations.PenaltyValuesFit :=
  ⟨fun k => ⟨scoreGrid_run_le k, scoreGrid_block_le k, scoreGrid_finder_le k, scoreGrid_balance_le k,
    scoreGrid_total_le k, scoreGrid_black_le k⟩, by decide +kernel, by decide +kernel⟩

end Sys2Proof.Machine
end

section
/-! PENALTY (R285): a grid with an unset element and one without, the matrices RENDER, SELECT and ENCODE leave, and the
obligation about them. -/

namespace Sys2Proof.Machine

open Sys2Proof Sys2Proof.Claims

/-! ### The registers hold the score of a grid unreduced (R286) -/

section
variable (k : Vector Bool 441) (s : State)

theorem toNat_setScore_penRun : (setScore (scoreGrid k) s).penRun.toNat = (scoreGrid k).run :=
  Nat.mod_eq_of_lt ((scoreGrid_run_le k).trans_lt (by decide))

theorem toNat_setScore_penBlock : (setScore (scoreGrid k) s).penBlock.toNat = (scoreGrid k).block :=
  Nat.mod_eq_of_lt ((scoreGrid_block_le k).trans_lt (by decide))

theorem toNat_setScore_penFinder : (setScore (scoreGrid k) s).penFinder.toNat = (scoreGrid k).finder :=
  Nat.mod_eq_of_lt ((scoreGrid_finder_le k).trans_lt (by decide))

theorem toNat_setScore_penBalance : (setScore (scoreGrid k) s).penBalance.toNat = (scoreGrid k).balance :=
  Nat.mod_eq_of_lt ((scoreGrid_balance_le k).trans_lt (by decide))

theorem toNat_setScore_penTotal : (setScore (scoreGrid k) s).penTotal.toNat = (scoreGrid k).total :=
  Nat.mod_eq_of_lt ((scoreGrid_total_le k).trans_lt (by decide))

theorem toNat_setScore_blackCount : (setScore (scoreGrid k) s).blackCount.toNat = (scoreGrid k).black :=
  Nat.mod_eq_of_lt ((scoreGrid_black_le k).trans_lt (by decide))

/-- PEN_TOTAL holds the sum of the four cost registers (R285). -/
theorem toNat_setScore_penTotal_eq_sum : (setScore (scoreGrid k) s).penTotal.toNat =
    (setScore (scoreGrid k) s).penRun.toNat + (setScore (scoreGrid k) s).penBlock.toNat +
      (setScore (scoreGrid k) s).penFinder.toNat + (setScore (scoreGrid k) s).penBalance.toNat := by
  rw [toNat_setScore_penTotal, toNat_setScore_penRun, toNat_setScore_penBlock, toNat_setScore_penFinder,
    toNat_setScore_penBalance, Score.total]

end

/-! ### PENALTY -/

theorem exec_penalty_of_unset {s : State} (h : ∃ q : Fin 441, s.matrix[q] = .unset) :
    exec .penalty s = .next (raiseError ⟨.notRendered, 0#32⟩ s) := by
  obtain ⟨q, hq⟩ := h
  have hmem : ModuleState.unset ∈ s.matrix.toList :=
    Vector.mem_toList_iff.2 (Vector.mem_iff_getElem.2 ⟨q, q.isLt, hq⟩)
  rw [exec_eq_finish, perform, performPenalty, if_pos hmem, finish_error]

theorem exec_penalty_of_no_unset {s : State} (h : ∀ q : Fin 441, s.matrix[q] ≠ .unset) :
    exec .penalty s = .next (completeOk (setScore (scoreGrid (colourGrid s.matrix)) s)) := by
  have hmem : ModuleState.unset ∉ s.matrix.toList := by
    intro hmem
    obtain ⟨q, hlt, hq⟩ := Vector.mem_iff_getElem.1 (Vector.mem_toList_iff.1 hmem)
    exact h ⟨q, hlt⟩ hq
  rw [exec_eq_finish, perform, performPenalty, if_neg hmem, finish_ok]

/-! ### Rendered matrices -/

theorem render_ne_unset (cw : Vector Byte 26) (m : BitVec 3) (q : Fin 441) : (render cw m)[q] ≠ .unset := by
  rw [Fin.getElem_fin, getElem_render cw m q q.isLt]
  exact moduleAt_ne_unset

theorem performSelect_matrix (s : State) : (performSelect s).matrix = render s.cwBuf 7#3 := rfl

theorem performEncode_eq_ok {s u : State} (h : performEncode s = .ok u) :
    ∃ v, performCompose s = .ok v ∧ u = performSelect (performRsEncode v) := by
  unfold performEncode at h
  cases hcompose : performCompose s with
  | error e => simp [hcompose] at h
  | ok v =>
    rw [hcompose] at h
    exact ⟨v, rfl, (Except.ok.inj h).symm⟩

/-- A RENDER, SELECT or ENCODE that performs without an error leaves a rendered matrix (R252, R312, R314). -/
theorem perform_matrix_eq_render {i : Instr} {s u : State} (hi : (∃ m, i = .render m) ∨ i = .select ∨ i = .encode)
    (h : perform i s = .ok u) : ∃ cw m, u.matrix = render cw m := by
  obtain ⟨m, rfl⟩ | rfl | rfl := hi
  · obtain rfl := Except.ok.inj h
    exact ⟨_, _, performRender_matrix s m⟩
  · obtain rfl := Except.ok.inj h
    exact ⟨_, _, performSelect_matrix s⟩
  · obtain ⟨v, -, rfl⟩ := performEncode_eq_ok h
    exact ⟨_, _, performSelect_matrix (performRsEncode v)⟩

/-! ### The obligation -/

/-- Settles O33: PENALTY tests for an unset element and writes the score, whose values its registers hold by R286's
bounds; a completion without an error of one of the three commands leaves a rendered matrix
(`perform_matrix_eq_render`). -/
theorem penaltyScoresMatrix : Obligations.PenaltyScoresMatrix := by
  refine ⟨fun q => Vector.getElem_replicate q.isLt, ?rendered,
    fun s => ⟨exec_penalty_of_unset, fun hset => ?scored⟩⟩
  case rendered =>
    intro i s t hi _ hexec herr q
    obtain ⟨u, hu, rfl⟩ | ⟨e, -, rfl⟩ := exec_cases hexec
    · obtain ⟨cw, m, hmatrix⟩ := perform_matrix_eq_render hi hu
      rw [completeOk_matrix, hmatrix]
      exact render_ne_unset cw m q
    · cases herr
  case scored =>
    refine ⟨_, _, _, _, _, _, exec_penalty_of_no_unset hset, ?run, ?block, ?finder, ?black, ?balance,
      toNat_setScore_penTotal_eq_sum _ s⟩
    case run => exact (toNat_setScore_penRun _ s).trans (scoreGrid_run _)
    case block => exact (toNat_setScore_penBlock _ s).trans (scoreGrid_block _)
    case finder => exact (toNat_setScore_penFinder _ s).trans (scoreGrid_finder _)
    case black => exact (toNat_setScore_blackCount _ s).trans (scoreGrid_black _)
    case balance =>
      have hblack := toNat_setScore_blackCount (colourGrid s.matrix) s
      exact (toNat_setScore_penBalance _ s).trans (congrArg balanceCost hblack.symm)

end Sys2Proof.Machine
end

section
/-! NOP (R310): the word that decodes to it, its completion, and the obligation about it. -/

namespace Sys2Proof

/-! ### The NOP word (R112, R114) -/

theorem word_eq_zero_of_fields {w : Word} (hop : opField w = 0#8) (ha : aField w = 0#8) (hb : bField w = 0#8)
    (hz : zField w = 0#8) : w = 0#32 := by
  simp only [opField, aField, bField, zField, BitVec.toNat_eq, BitVec.extractLsb'_toNat, BitVec.toNat_ofNat] at *
  omega

/-- Only opcode 0 can give NOP, and its format has no operands (R112). -/
theorem fields_of_decodeFields_eq_nop {op a b : Byte} (h : decodeFields op a b = .ok .nop) :
    op = 0#8 ∧ a = 0#8 ∧ b = 0#8 := by
  unfold decodeFields at h
  split at h
  case h_1 => simpa [formatN] using h
  all_goals simp [formatN, formatA, formatM, ite_eq_iff] at h

theorem decode_eq_nop_iff (w : Word) : decode w = .ok .nop ↔ w = 0#32 := by
  constructor
  · intro h
    unfold decode at h
    split at h
    · cases h
    · next hz =>
      obtain ⟨hop, ha, hb⟩ := fields_of_decodeFields_eq_nop h
      exact word_eq_zero_of_fields hop ha hb (not_not.1 hz)
  · rintro rfl
    rfl

end Sys2Proof

namespace Sys2Proof.Machine

open Sys2Proof

/-! ### NOP -/

theorem exec_nop (s : State) : exec .nop s = .next (completeOk s) := rfl

/-- A command that completes without an error on a record cleared by the issue leaves DONE alone in STATUS (R36). -/
theorem statusWord_completeOk {s : State} (herr : s.err = false) (hovr : s.ovr = false) (hcode : s.errCode = 0#4) :
    (completeOk s).statusWord = 2#32 := by
  have hbusy : (completeOk s).busy = false := rfl
  simp [State.statusWord, bitAt, hbusy, herr, hovr, hcode]

/-- Settles O34: NOP is the completion alone, and the issue has cleared the error record. -/
theorem nopOnlyCompletes : Obligations.NopOnlyCompletes :=
  ⟨exec_nop, decode_eq_nop_iff, fun s hovr => ⟨_, exec_nop (latchCommand 0#32 s),
    statusWord_completeOk rfl hovr rfl, rfl⟩⟩

end Sys2Proof.Machine
end

section
/-! SELECT (R311 to R313): the retained trial as a first least mask, the totals of the eight masks, and the obligation
about them. -/

namespace Sys2Proof.Machine

open Sys2Proof Sys2Proof.Claims

/-! ### The first least mask (R311) -/

/-- The masks in the order of their trials (R312). -/
def masks : List (BitVec 3) := [0#3, 1#3, 2#3, 3#3, 4#3, 5#3, 6#3, 7#3]

theorem mem_masks (m : BitVec 3) : m ∈ masks := by
  revert m
  decide

theorem idxOf_masks (m : BitVec 3) : masks.idxOf m = m.toNat := by
  revert m
  decide

section
variable (cw : Vector Byte 26)

/-- The comparison of `keepBest` is that of `List.argmin`, which also keeps the first of equals. -/
theorem keepBest_map_trial (m : BitVec 3) (ms : List (BitVec 3)) :
    ∃ best ∈ (m :: ms).argmin (maskTotal cw), keepBest (trial cw m) (ms.map (trial cw)) = trial cw best := by
  induction ms generalizing m with
  | nil => exact ⟨m, rfl, rfl⟩
  | cons k ms ih =>
    have hargmin : (m :: k :: ms).argmin (maskTotal cw) =
        if maskTotal cw k < maskTotal cw m then (k :: ms).argmin (maskTotal cw)
        else (m :: ms).argmin (maskTotal cw) := by
      simp only [List.argmin, List.foldl_cons, List.argAux]
      split <;> rfl
    rw [hargmin, List.map_cons, keepBest]
    by_cases hlt : maskTotal cw k < maskTotal cw m
    · rw [if_pos hlt]
      exact (if_pos hlt) ▸ ih k
    · rw [if_neg hlt]
      exact (if_neg hlt) ▸ ih m

/-- The retained trial is that of the least mask among those whose total is least. -/
theorem bestTrial_eq_trial : ∃ best, bestTrial cw = trial cw best ∧
    (∀ m, maskTotal cw best ≤ maskTotal cw m) ∧
    (∀ m : BitVec 3, m.toNat < best.toNat → maskTotal cw best < maskTotal cw m) := by
  obtain ⟨best, hbest, htrial⟩ := keepBest_map_trial cw 0#3 [1#3, 2#3, 3#3, 4#3, 5#3, 6#3, 7#3]
  refine ⟨best, htrial, fun m => List.le_of_mem_argmin (mem_masks m) hbest, fun m hm => ?_⟩
  by_contra hle
  have hidx : masks.idxOf best ≤ masks.idxOf m := List.index_of_argmin hbest (mem_masks m) (not_lt.1 hle)
  rw [idxOf_masks, idxOf_masks] at hidx
  omega

/-! ### SELECT's writes (R312, R313) -/

/-- MASK_PEN as SELECT leaves it. -/
def maskTotals : Vector (BitVec 16) 8 := tabulate fun m => BitVec.ofNat 16 (maskTotal cw (BitVec.ofFin m))

theorem getElem_maskTotals (m : BitVec 3) : (maskTotals cw)[m.toFin] = BitVec.ofNat 16 (maskTotal cw m) :=
  getElem_tabulate _ m.toNat m.isLt

theorem toNat_getElem_maskTotals (m : BitVec 3) : (maskTotals cw)[m.toFin].toNat = maskTotal cw m := by
  rw [getElem_maskTotals]
  exact Nat.mod_eq_of_lt ((scoreGrid_total_le _).trans_lt (by decide))

end

theorem exec_select (s : State) : exec .select s = .next (completeOk (performSelect s)) := rfl

/-- SELECT's writes, once the trial it retains is known. -/
theorem performSelect_eq {s : State} {best : BitVec 3} (h : bestTrial s.cwBuf = trial s.cwBuf best) :
    performSelect s = setScore (scoreGrid (colourGrid (render s.cwBuf 7#3))) { s with
      maskPen := maskTotals s.cwBuf
      best := colourGrid (render s.cwBuf best)
      bestMask := best
      bestValid := true
      bestPenalty := (maskTotals s.cwBuf)[best.toFin]
      matrix := render s.cwBuf 7#3 } := by
  rw [getElem_maskTotals, performSelect, h]
  rfl

/-- Settles O35: the retained trial is the first least mask's (`bestTrial_eq_trial`), and every total and cost fits its
register (R286). -/
theorem selectKeepsFirstMinimum : Obligations.SelectKeepsFirstMinimum := by
  intro s
  obtain ⟨best, htrial, hleast, hfirst⟩ := bestTrial_eq_trial s.cwBuf
  refine ⟨best, maskTotals s.cwBuf, _, _, _, _, _, _,
    (exec_select s).trans (congrArg (Host.Outcome.next <| completeOk ·) (performSelect_eq htrial)),
    toNat_getElem_maskTotals s.cwBuf, hleast, hfirst,
    toNat_setScore_penRun _ s, toNat_setScore_penBlock _ s, toNat_setScore_penFinder _ s,
    toNat_setScore_penBalance _ s, toNat_setScore_blackCount _ s, (getElem_maskTotals s.cwBuf 7#3).symm⟩

end Sys2Proof.Machine
end

section
/-! ENCODE (R314): which texts COMPOSE accepts (R211 to R219), the completion and the three commands in turn, and the
obligation about them. -/

namespace Sys2Proof.Machine

open Sys2Proof Sys2Proof.Claims

/-! ### The composed length (R215 to R218) -/

theorem length_packNumeric (t : List Byte) : (packNumeric t).length =
    10 * (t.length / 3) + (if t.length % 3 = 1 then 4 else if t.length % 3 = 2 then 7 else 0) := by
  induction t using packNumeric.induct with
  | case1 a b c t ih =>
    have hlength : (a :: b :: c :: t).length = t.length + 3 := rfl
    simp only [packNumeric, List.length_append, length_bin, ih, hlength, Nat.add_mod_right]
    omega
  | case2 a b => simp [packNumeric]
  | case3 a => simp [packNumeric]
  | case4 => simp [packNumeric]

theorem length_packAlnum (t : List Byte) :
    (packAlnum t).length = 11 * (t.length / 2) + 6 * (t.length % 2) := by
  induction t using packAlnum.induct with
  | case1 a b t ih =>
    simp only [packAlnum, List.length_append, length_bin, ih, List.length_cons]
    omega
  | case2 a => simp [packAlnum]
  | case3 => simp [packAlnum]

/-- The composed length has its closed form (R218). -/
theorem length_compose (t : List Byte) : (compose t).length = closedLength t := by
  have hdigits : (t.all fun c => decide (0x30 ≤ c.toNat ∧ c.toNat ≤ 0x39)) = t.all isDigit := rfl
  rw [closedLength, hdigits, compose, isAlnumText]
  cases t.all isDigit
  · simp [length_packAlnum]
    omega
  · simp [length_packNumeric]
    omega

/-! ### The texts COMPOSE accepts (R211, R214, R219) -/

theorem validChar_iff (c : Byte) : validChar c = true ↔ c ∈ alnumSet := by
  rw [validChar, decide_eq_true_iff]
  exact List.idxOf_lt_length_iff

theorem firstInvalid_eq_none_iff (k : Nat) (t : List Byte) : firstInvalid k t = none ↔ ValidText t := by
  induction t generalizing k with
  | nil => simp [firstInvalid, ValidText]
  | cons c t ih =>
    rw [firstInvalid, ValidText, List.forall_mem_cons, ← validChar_iff]
    by_cases hc : validChar c
    · simp [hc, ih, ValidText]
    · simp [hc]

theorem performCompose_of_accepted {s : State} (h : Accepted s) :
    performCompose s = .ok (setComposed s.text s) := by
  obtain ⟨hcount, hvalid, hlength⟩ := h
  rw [performCompose, if_neg (Nat.not_lt.2 hcount), (firstInvalid_eq_none_iff 0 _).2 hvalid]
  exact if_neg (length_compose s.text ▸ Nat.not_lt.2 hlength)

/-- On any other text COMPOSE raises one of its two errors. -/
theorem performCompose_of_not_accepted {s : State} (h : ¬ Accepted s) : ∃ e : CmdError,
    (e.kind.code = 2#4 ∨ e.kind.code = 3#4) ∧ performCompose s = .error e := by
  unfold performCompose
  split
  · exact ⟨_, .inr rfl, rfl⟩
  next hcount =>
    split
    · exact ⟨_, .inl rfl, rfl⟩
    next hvalid =>
      split
      · exact ⟨_, .inr rfl, rfl⟩
      next hlength =>
        rw [length_compose] at hlength
        exact absurd ⟨not_lt.1 hcount, (firstInvalid_eq_none_iff 0 _).1 hvalid, not_lt.1 hlength⟩ h

/-! ### The three commands in turn -/

/-- No command reads what a completion writes, so the completions of COMPOSE and RS_ENCODE on the way leave no trace
in the state SELECT ends in. -/
theorem completeOk_pipeline (s : State) :
    completeOk (performSelect (completeOk (performRsEncode (completeOk s)))) =
      completeOk (performSelect (performRsEncode s)) := rfl

section
variable {s : State}

theorem exec_compose_of_ok {u : State} (h : performCompose s = .ok u) :
    exec .compose s = .next (completeOk u) := by
  rw [exec_eq_finish, perform, h, finish_ok]

theorem exec_compose_of_error {e : CmdError} (h : performCompose s = .error e) :
    exec .compose s = .next (raiseError e s) := by
  rw [exec_eq_finish, perform, h, finish_error]

theorem exec_encode_of_compose_ok {u : State} (h : performCompose s = .ok u) :
    exec .encode s = .next (completeOk (performSelect (performRsEncode u))) := by
  rw [exec_eq_finish, perform, performEncode, h, finish_ok]

theorem exec_encode_of_compose_error {e : CmdError} (h : performCompose s = .error e) :
    exec .encode s = .next (raiseError e s) := by
  rw [exec_eq_finish, perform, performEncode, h, finish_error]

end

theorem exec_rsEncode (s : State) : exec .rsEncode s = .next (completeOk (performRsEncode s)) := rfl

/-- Settles O36: COMPOSE succeeds exactly on the accepted texts, ENCODE passes its error on, and the completions of
the three commands add up to ENCODE's one (`completeOk_pipeline`). -/
theorem encodeIsThePipeline : Obligations.EncodeIsThePipeline := by
  refine ⟨fun s haccepted => ?accepted, fun s hrejected => ?rejected⟩
  case accepted =>
    have hcompose := performCompose_of_accepted haccepted
    exact ⟨_, _, _, exec_compose_of_ok hcompose, exec_rsEncode _, exec_select _,
      (exec_encode_of_compose_ok hcompose).trans (congrArg Host.Outcome.next (completeOk_pipeline _).symm)⟩
  case rejected =>
    obtain ⟨e, hcode, hcompose⟩ := performCompose_of_not_accepted hrejected
    have hencode := exec_encode_of_compose_error hcompose
    exact ⟨e.kind.code, e.info, hcode, hencode, (exec_compose_of_error hcompose).trans hencode.symm⟩

end Sys2Proof.Machine
end

section
/-! The encoding (R111 to R120): an instruction as its mnemonic with the operands its format takes, the decoder and the
encoder as inverse to each other, R114's table, the assembler, and the obligations about them. -/

namespace Sys2Proof

/-! ### Instructions by mnemonic and operands -/

/-- The command of a mnemonic with the operands `a` and `b`; it takes those its format has (R112, R113). -/
def Mnemonic.build : Mnemonic → Byte → Byte → Instr
  | .nop, _, _ => .nop
  | .gfAdd, a, b => .gfAdd a b
  | .gfSub, a, b => .gfSub a b
  | .gfMul, a, b => .gfMul a b
  | .gfDiv, a, b => .gfDiv a b
  | .gfPow, a, b => .gfPow a b
  | .gfInv, a, _ => .gfInv a
  | .gfExp, a, _ => .gfExp a
  | .gfLog, a, _ => .gfLog a
  | .rsEncode, _, _ => .rsEncode
  | .rsSyndrome, _, _ => .rsSyndrome
  | .compose, _, _ => .compose
  | .render, a, _ => .render (maskOf a)
  | .penalty, _, _ => .penalty
  | .select, _, _ => .select
  | .encode, _, _ => .encode

/-- The fields A and B a format allows in a legal word (R112, R113). -/
def Format.allows : Format → Byte → Byte → Prop
  | .N, a, b => a = 0#8 ∧ b = 0#8
  | .A, _, b => b = 0#8
  | .AB, _, _ => True
  | .M, a, b => maskHigh a = 0#5 ∧ b = 0#8

/-- The numbers an assembler line of a format has for the operands `a` and `b` (R112, R120). -/
def Format.operands : Format → Byte → Byte → List Nat
  | .N, _, _ => []
  | .A, a, _ => [a.toNat]
  | .AB, a, b => [a.toNat, b.toNat]
  | .M, a, _ => [(maskOf a).toNat]

theorem spelling_build (m : Mnemonic) (a b : Byte) : (m.build a b).spelling = ⟨m, m.format.operands a b⟩ := by
  cases m <;> rfl

theorem setWidth_maskOf {a : Byte} (h : maskHigh a = 0#5) : (maskOf a).setWidth 8 = a := by
  revert a
  decide

theorem encode_build {m : Mnemonic} {a b : Byte} (h : m.format.allows a b) :
    encode (m.build a b) = packWord m.opcode a b := by
  cases m
  case gfAdd | gfSub | gfMul | gfDiv | gfPow => rfl
  case gfInv | gfExp | gfLog => obtain rfl : b = 0#8 := h; rfl
  case render =>
    obtain ⟨hmask, rfl⟩ := h
    rw [Mnemonic.build, encode, setWidth_maskOf hmask]
    rfl
  all_goals
    obtain ⟨rfl, rfl⟩ := h
    rfl

/-- Every command is built from operands its format allows. -/
theorem exists_build (i : Instr) : ∃ (m : Mnemonic) (a b : Byte), m.format.allows a b ∧ i = m.build a b := by
  cases i with
  | nop => exact ⟨.nop, 0#8, 0#8, ⟨rfl, rfl⟩, rfl⟩
  | gfAdd x y => exact ⟨.gfAdd, x, y, trivial, rfl⟩
  | gfSub x y => exact ⟨.gfSub, x, y, trivial, rfl⟩
  | gfMul x y => exact ⟨.gfMul, x, y, trivial, rfl⟩
  | gfDiv x y => exact ⟨.gfDiv, x, y, trivial, rfl⟩
  | gfPow x e => exact ⟨.gfPow, x, e, trivial, rfl⟩
  | gfInv x => exact ⟨.gfInv, x, 0#8, rfl, rfl⟩
  | gfExp k => exact ⟨.gfExp, k, 0#8, rfl, rfl⟩
  | gfLog x => exact ⟨.gfLog, x, 0#8, rfl, rfl⟩
  | rsEncode => exact ⟨.rsEncode, 0#8, 0#8, ⟨rfl, rfl⟩, rfl⟩
  | rsSyndrome => exact ⟨.rsSyndrome, 0#8, 0#8, ⟨rfl, rfl⟩, rfl⟩
  | compose => exact ⟨.compose, 0#8, 0#8, ⟨rfl, rfl⟩, rfl⟩
  | render m => exact ⟨.render, m.setWidth 8, 0#8, ⟨maskHigh_setWidth m, rfl⟩, by rw [Mnemonic.build, maskOf_setWidth]⟩
  | penalty => exact ⟨.penalty, 0#8, 0#8, ⟨rfl, rfl⟩, rfl⟩
  | select => exact ⟨.select, 0#8, 0#8, ⟨rfl, rfl⟩, rfl⟩
  | encode => exact ⟨.encode, 0#8, 0#8, ⟨rfl, rfl⟩, rfl⟩

/-! ### The decoder and the encoder (R115, R116, R120) -/

theorem decodeFields_opcode {m : Mnemonic} {a b : Byte} (h : m.format.allows a b) :
    decodeFields m.opcode a b = .ok (m.build a b) := by
  cases m
  case gfAdd | gfSub | gfMul | gfDiv | gfPow => rfl
  all_goals exact if_pos h

section
variable {a b : Byte} {j : Instr}

theorem allows_of_formatN {i : Instr} (h : formatN i a b = .ok j) : Format.N.allows a b := by
  by_contra hnot
  cases (if_neg hnot).symm.trans h

theorem allows_of_formatA {mk : Byte → Instr} (h : formatA mk a b = .ok j) : Format.A.allows a b := by
  by_contra hnot
  cases (if_neg hnot).symm.trans h

theorem allows_of_formatM {mk : BitVec 3 → Instr} (h : formatM mk a b = .ok j) : Format.M.allows a b := by
  by_contra hnot
  cases (if_neg hnot).symm.trans h

/-- The fields of a legal word are an opcode and operands its format allows. -/
theorem exists_opcode_of_decodeFields {op : Byte} (h : decodeFields op a b = .ok j) :
    ∃ m : Mnemonic, op = m.opcode ∧ m.format.allows a b := by
  unfold decodeFields at h
  split at h
  · exact ⟨.nop, rfl, allows_of_formatN h⟩
  · exact ⟨.gfAdd, rfl, trivial⟩
  · exact ⟨.gfSub, rfl, trivial⟩
  · exact ⟨.gfMul, rfl, trivial⟩
  · exact ⟨.gfDiv, rfl, trivial⟩
  · exact ⟨.gfPow, rfl, trivial⟩
  · exact ⟨.gfInv, rfl, allows_of_formatA h⟩
  · exact ⟨.gfExp, rfl, allows_of_formatA h⟩
  · exact ⟨.gfLog, rfl, allows_of_formatA h⟩
  · exact ⟨.rsEncode, rfl, allows_of_formatN h⟩
  · exact ⟨.rsSyndrome, rfl, allows_of_formatN h⟩
  · exact ⟨.compose, rfl, allows_of_formatN h⟩
  · exact ⟨.render, rfl, allows_of_formatM h⟩
  · exact ⟨.penalty, rfl, allows_of_formatN h⟩
  · exact ⟨.select, rfl, allows_of_formatN h⟩
  · exact ⟨.encode, rfl, allows_of_formatN h⟩
  · cases h

end

theorem decode_encode (i : Instr) : decode (encode i) = .ok i := by
  obtain ⟨m, a, b, hallows, rfl⟩ := exists_build i
  rw [encode_build hallows, decode_packWord, decodeFields_opcode hallows]

/-- A word with Z = 0 is packed from its other fields (R111). -/
theorem packWord_fields {w : Word} (hz : zField w = 0#8) : packWord (opField w) (aField w) (bField w) = w := by
  have hhigh (i : Nat) (hi : i < 8) : w.getLsbD (24 + i) = false := by
    simpa [zField, hi] using congrArg (BitVec.getLsbD · i) hz
  apply BitVec.eq_of_getLsbD_eq
  intro i hi
  by_cases hi24 : 24 ≤ i
  · obtain ⟨j, rfl⟩ := Nat.exists_eq_add_of_le hi24
    rw [hhigh j (by omega)]
    simp [packWord, opField, aField, bField, show 24 + j - 16 = 8 + j by omega, show 24 + j - 8 = 16 + j by omega]
    constructor <;> intros <;> omega
  · interval_cases i <;> simp [packWord, opField, aField, bField]

theorem encode_of_decode {w : Word} {i : Instr} (h : decode w = .ok i) : encode i = w := by
  unfold decode at h
  split at h
  · cases h
  · next hz =>
    obtain ⟨m, hop, hallows⟩ := exists_opcode_of_decodeFields h
    rw [hop, decodeFields_opcode hallows] at h
    obtain rfl := Except.ok.inj h
    rw [encode_build hallows, ← hop, packWord_fields (not_not.1 hz)]

/-- Settles O1: fields of the encoding are the opcode and the operands (`decode_encode`). -/
theorem decodeOfEncode : Obligations.DecodeOfEncode := fun i _ => decode_encode i

/-- Settles O2: a legal word is packed from its fields, and these are a command's (`encode_of_decode`). -/
theorem encodeOfDecode : Obligations.EncodeOfDecode := fun _ _ => encode_of_decode

/-- Settles O5: each word is decoded by evaluation. -/
theorem writtenWordsDecode : Obligations.WrittenWordsDecode := by
  unfold Obligations.WrittenWordsDecode
  decide

/-! ### R114's match and mask table -/

/-- The bits of A and of B that a format wants 0: those its mask keeps (R114). -/
def Format.zeroBits : Format → Byte × Byte
  | .N => (0xFF#8, 0xFF#8)
  | .A => (0x00#8, 0xFF#8)
  | .AB => (0x00#8, 0x00#8)
  | .M => (0xF8#8, 0xFF#8)

/-- Each row's mask keeps OP, Z and the bits its format wants 0; its match holds the opcode alone. -/
theorem fields_of_mem_opcodeTable : ∀ r ∈ opcodeTable,
    (opField r.mask = 0xFF#8 ∧ zField r.mask = 0xFF#8 ∧
      (aField r.mask, bField r.mask) = r.mnemonic.format.zeroBits) ∧
    opField r.pattern = r.mnemonic.opcode ∧ zField r.pattern = 0#8 ∧ aField r.pattern = 0#8 ∧
      bField r.pattern = 0#8 := by decide

theorem eq_of_mnemonic_eq : ∀ r ∈ opcodeTable, ∀ r' ∈ opcodeTable, r.mnemonic = r'.mnemonic → r = r' := by decide

theorem maskHigh_eq_zero_of_and {a : Byte} (h : a &&& 0xF8#8 = 0#8) : maskHigh a = 0#5 := by
  revert a
  decide

theorem allows_of_and_zeroBits {f : Format} {a b : Byte} (ha : a &&& f.zeroBits.1 = 0#8)
    (hb : b &&& f.zeroBits.2 = 0#8) : f.allows a b := by
  have hall (x : Byte) : x &&& 0xFF#8 = x := BitVec.and_allOnes
  cases f with
  | N => exact ⟨hall a ▸ ha, hall b ▸ hb⟩
  | A => exact hall b ▸ hb
  | AB => trivial
  | M => exact ⟨maskHigh_eq_zero_of_and ha, hall b ▸ hb⟩

/-- A word that a row selects has the row's opcode, Z = 0 and operands the row's format allows. -/
theorem fields_of_selected {w : Word} {r : OpcodeRow} (hr : r ∈ opcodeTable) (h : w &&& r.mask = r.pattern) :
    zField w = 0#8 ∧ opField w = r.mnemonic.opcode ∧ r.mnemonic.format.allows (aField w) (bField w) := by
  have hand (s : Nat) : w.extractLsb' s 8 &&& r.mask.extractLsb' s 8 = r.pattern.extractLsb' s 8 := by
    rw [← BitVec.extractLsb'_and, h]
  have hall (x : Byte) : x &&& 0xFF#8 = x := BitVec.and_allOnes
  obtain ⟨⟨hopMask, hzMask, hzeroBits⟩, hop, hz, ha, hb⟩ := fields_of_mem_opcodeTable r hr
  obtain ⟨haMask, hbMask⟩ := Prod.mk.inj hzeroBits
  refine ⟨?z, ?op, allows_of_and_zeroBits (haMask ▸ ha ▸ hand 8) (hbMask ▸ hb ▸ hand 16)⟩
  case z => exact (hall _).symm.trans (hzMask ▸ hz ▸ hand 24)
  case op => exact (hall _).symm.trans (hopMask ▸ hop ▸ hand 0)

theorem decode_of_selected {w : Word} {r : OpcodeRow} (hr : r ∈ opcodeTable) (h : w &&& r.mask = r.pattern) :
    decode w = .ok (r.mnemonic.build (aField w) (bField w)) := by
  obtain ⟨hz, hop, hallows⟩ := fields_of_selected hr h
  rw [decode, if_neg (not_not.2 hz), hop, decodeFields_opcode hallows]

theorem rowMatch (i : Instr) : Laws.RowMatch.Statement i :=
  match i with
  | .nop => Laws.RowMatch.nop
  | .gfAdd x y => Laws.RowMatch.gfAdd x y
  | .gfSub x y => Laws.RowMatch.gfSub x y
  | .gfMul x y => Laws.RowMatch.gfMul x y
  | .gfDiv x y => Laws.RowMatch.gfDiv x y
  | .gfPow x e => Laws.RowMatch.gfPow x e
  | .gfInv x => Laws.RowMatch.gfInv x
  | .gfExp k => Laws.RowMatch.gfExp k
  | .gfLog x => Laws.RowMatch.gfLog x
  | .rsEncode => Laws.RowMatch.rsEncode
  | .rsSyndrome => Laws.RowMatch.rsSyndrome
  | .compose => Laws.RowMatch.compose
  | .render m => Laws.RowMatch.render m
  | .penalty => Laws.RowMatch.penalty
  | .select => Laws.RowMatch.select
  | .encode => Laws.RowMatch.encode

/-- A row of R114's table selects the words of its mnemonic's commands, and no others. -/
theorem selects_iff_decode {w : Word} {r : OpcodeRow} (hr : r ∈ opcodeTable) :
    w &&& r.mask = r.pattern ↔ ∃ i, decode w = .ok i ∧ i.spelling.mnemonic = r.mnemonic := by
  constructor
  · intro h
    exact ⟨_, decode_of_selected hr h, by rw [spelling_build]⟩
  · rintro ⟨i, hi, hmnemonic⟩
    obtain ⟨-, r', hr', hmnemonic', hselects⟩ := rowMatch i
    obtain rfl := eq_of_mnemonic_eq r' hr' r hr (hmnemonic'.trans hmnemonic)
    rwa [encode_of_decode hi] at hselects

/-- Settles O3: a row selects exactly its own commands' words (`selects_iff_decode`), and every command has a row
(`rowMatch`). -/
theorem decodeAgreesWithMaskTable : Obligations.DecodeAgreesWithMaskTable := by
  refine ⟨fun w r hr => selects_iff_decode hr, ?illegal, ?disjoint⟩
  case illegal =>
    intro w hnone
    cases hdecode : decode w with
    | error e => exact ⟨e, rfl⟩
    | ok i =>
      obtain ⟨-, r, hr, -, hselects⟩ := rowMatch i
      rw [encode_of_decode hdecode] at hselects
      exact absurd hselects (hnone r hr)
  case disjoint =>
    intro w r hr r' hr' h h'
    obtain ⟨i, hi, hmnemonic⟩ := (selects_iff_decode hr).1 h
    obtain ⟨i', hi', hmnemonic'⟩ := (selects_iff_decode hr').1 h'
    obtain rfl := Except.ok.inj (hi.symm.trans hi')
    exact eq_of_mnemonic_eq r hr r' hr' (hmnemonic.symm.trans hmnemonic')

/-! ### The assembler (R120) -/

theorem exists_operands_of_wf {l : AsmLine} (h : l.wf = true) :
    ∃ a b : Byte, l.operands = l.mnemonic.format.operands a b := by
  unfold AsmLine.wf at h
  split at h
  next hformat hnumbers => exact ⟨0#8, 0#8, by rw [hformat, hnumbers, Format.operands]⟩
  next x hformat hnumbers =>
    have hx : x < 256 := of_decide_eq_true h
    exact ⟨BitVec.ofNatLT x hx, 0#8, by simp [hformat, hnumbers, Format.operands]⟩
  next x y hformat hnumbers =>
    obtain ⟨hx, hy⟩ : x < 256 ∧ y < 256 := by simpa using h
    exact ⟨BitVec.ofNatLT x hx, BitVec.ofNatLT y hy, by simp [hformat, hnumbers, Format.operands]⟩
  next m hformat hnumbers =>
    have hm : m < 8 := of_decide_eq_true h
    refine ⟨(BitVec.ofNatLT m (w := 3) hm).setWidth 8, 0#8, ?_⟩
    rw [hformat, hnumbers, Format.operands, maskOf_setWidth, BitVec.toNat_ofNatLT]
  · cases h

/-- An assembler reads a line exactly when it spells a command. -/
theorem wf_iff_exists_spelling (l : AsmLine) : l.wf = true ↔ ∃ i : Instr, i.spelling = l := by
  constructor
  · intro h
    obtain ⟨a, b, hoperands⟩ := exists_operands_of_wf h
    exact ⟨l.mnemonic.build a b, by rw [spelling_build, ← hoperands]⟩
  · rintro ⟨i, rfl⟩
    exact (rowMatch i).1

theorem exists_assemble_iff_wf (l : AsmLine) : (∃ w, assemble l = some w) ↔ l.wf = true := by
  cases h : l.wf <;> simp [assemble, h]

/-- The operands an assembler takes for absent are those the format wants 0. -/
theorem getD_operands {f : Format} {a b : Byte} (h : f.allows a b) :
    (f.operands a b).getD 0 0 = a.toNat ∧ (f.operands a b).getD 1 0 = b.toNat := by
  cases f with
  | N =>
    obtain ⟨rfl, rfl⟩ := h
    exact ⟨rfl, rfl⟩
  | A =>
    obtain rfl : b = 0#8 := h
    exact ⟨rfl, rfl⟩
  | AB => exact ⟨rfl, rfl⟩
  | M =>
    obtain ⟨hmask, rfl⟩ := h
    refine ⟨?_, rfl⟩
    have hwidth := congrArg BitVec.toNat (setWidth_maskOf hmask)
    rwa [BitVec.toNat_setWidth_of_le (by decide)] at hwidth

theorem assemble_spelling (i : Instr) : assemble i.spelling = some (encode i) := by
  have hwf : i.spelling.wf = true := (rowMatch i).1
  obtain ⟨m, a, b, hallows, rfl⟩ := exists_build i
  obtain ⟨ha, hb⟩ := getD_operands hallows
  rw [assemble, if_pos hwf, spelling_build, encode_build hallows, ha, hb, packWord, BitVec.ofNat_toNat,
    BitVec.ofNat_toNat]

/-- Settles O4: the well-formed lines are the spellings, and of a spelling the assembler packs the operands the encoder
packs. -/
theorem assemblerAgreesWithEncoder : Obligations.AssemblerAgreesWithEncoder :=
  ⟨fun l => (exists_assemble_iff_wf l).trans (wf_iff_exists_spelling l), assemble_spelling⟩

end Sys2Proof
end

section
/-! The commands as a whole (R50, R118, R344): what each one writes when it performs without an error, the frame of
these writes row by row of R50, the known error codes, and the obligations about them. -/

namespace Sys2Proof.Machine

open Sys2Proof Sys2Proof.Claims

/-! ### What a command writes (R50) -/

/-- The GF commands, those that write RESULT (R42). -/
def IsGf (i : Instr) : Prop :=
  ∃ x y, i = .gfAdd x y ∨ i = .gfSub x y ∨ i = .gfMul x y ∨ i = .gfDiv x y ∨ i = .gfPow x y ∨
    i = .gfInv x ∨ i = .gfExp x ∨ i = .gfLog x

/-- SELECT's writes for any two trials and totals (R312). -/
def setSelection (best last : Trial) (totals : Vector (BitVec 16) 8) (s : State) : State :=
  setScore last.score { s with
    maskPen := totals
    best := colourGrid best.matrix
    bestMask := best.mask
    bestValid := true
    bestPenalty := BitVec.ofNat 16 best.score.total
    matrix := last.matrix }

theorem performSelect_eq_setSelection (s : State) :
    performSelect s = setSelection (bestTrial s.cwBuf) (trial s.cwBuf 7#3) (maskTotals s.cwBuf) s := rfl

/-- `Writes s i u`: from `s` the command `i` can perform without an error, and its writes give `u`. -/
inductive Writes (s : State) : Instr → State → Prop where
  | nothing : Writes s .nop s
  | result {i : Instr} (v : Byte) (hgf : IsGf i) : Writes s i (setResult v s)
  | ecCodewords : Writes s .rsEncode (performRsEncode s)
  | syndromes : Writes s .rsSyndrome (performRsSyndrome s)
  | composed (haccepted : Accepted s) : Writes s .compose (setComposed s.text s)
  | modules (m : BitVec 3) : Writes s (.render m) (performRender m s)
  | score : Writes s .penalty (setScore (scoreGrid (colourGrid s.matrix)) s)
  | selection {best last : Trial} {totals : Vector (BitVec 16) 8}
      (hselect : performSelect s = setSelection best last totals s) :
      Writes s .select (setSelection best last totals s)
  | symbol {best last : Trial} {totals : Vector (BitVec 16) 8} (haccepted : Accepted s)
      (hselect : performSelect (performRsEncode (setComposed s.text s)) =
        setSelection best last totals (performRsEncode (setComposed s.text s))) :
      Writes s .encode (setSelection best last totals (performRsEncode (setComposed s.text s)))

section
variable {i : Instr} {s t u : State}

theorem writes_of_performGf {e : ErrKind} {r : Option Byte} (hgf : IsGf i) (h : performGf e r s = .ok u) :
    Writes s i u := by
  cases r with
  | none => cases h
  | some v =>
    obtain rfl := Except.ok.inj h
    exact .result v hgf

theorem performCompose_eq_ok (h : performCompose s = .ok u) : Accepted s ∧ u = setComposed s.text s := by
  by_cases haccepted : Accepted s
  · rw [performCompose_of_accepted haccepted] at h
    exact ⟨haccepted, (Except.ok.inj h).symm⟩
  · obtain ⟨e, -, herror⟩ := performCompose_of_not_accepted haccepted
    cases herror.symm.trans h

theorem performPenalty_eq_ok (h : performPenalty s = .ok u) :
    u = setScore (scoreGrid (colourGrid s.matrix)) s := by
  unfold performPenalty at h
  split at h
  · cases h
  · exact (Except.ok.inj h).symm

/-- Every command that performs without an error makes its own writes and no others. -/
theorem writes_of_perform (h : perform i s = .ok u) : Writes s i u := by
  cases i with
  | nop => obtain rfl := Except.ok.inj h; exact .nothing
  | gfAdd x y => obtain rfl := Except.ok.inj h; exact .result _ ⟨x, y, by simp⟩
  | gfSub x y => obtain rfl := Except.ok.inj h; exact .result _ ⟨x, y, by simp⟩
  | gfMul x y => obtain rfl := Except.ok.inj h; exact .result _ ⟨x, y, by simp⟩
  | gfDiv x y => exact writes_of_performGf ⟨x, y, by simp⟩ h
  | gfPow x e => exact writes_of_performGf ⟨x, e, by simp⟩ h
  | gfInv x => exact writes_of_performGf ⟨x, x, by simp⟩ h
  | gfExp k => obtain rfl := Except.ok.inj h; exact .result _ ⟨k, k, by simp⟩
  | gfLog x => exact writes_of_performGf ⟨x, x, by simp⟩ h
  | rsEncode => obtain rfl := Except.ok.inj h; exact .ecCodewords
  | rsSyndrome => obtain rfl := Except.ok.inj h; exact .syndromes
  | compose =>
    obtain ⟨haccepted, rfl⟩ := performCompose_eq_ok h
    exact .composed haccepted
  | render m => obtain rfl := Except.ok.inj h; exact .modules m
  | penalty =>
    obtain rfl := performPenalty_eq_ok h
    exact .score
  | select =>
    obtain rfl := Except.ok.inj h
    rw [performSelect_eq_setSelection]
    exact .selection (performSelect_eq_setSelection s)
  | encode =>
    obtain ⟨v, hcompose, rfl⟩ := performEncode_eq_ok h
    obtain ⟨haccepted, rfl⟩ := performCompose_eq_ok hcompose
    rw [performSelect_eq_setSelection]
    exact .symbol haccepted (performSelect_eq_setSelection _)

/-- What one command can do: its writes and the completion, or one error and nothing else (R118, R344). -/
theorem exec_writes_or_raises (h : exec i s = .next t) :
    (∃ u, Writes s i u ∧ t = completeOk u) ∨ ∃ e, t = raiseError e s := by
  obtain ⟨u, hu, rfl⟩ | ⟨e, -, rfl⟩ := exec_cases h
  · exact .inl ⟨u, writes_of_perform hu, rfl⟩
  · exact .inr ⟨e, rfl⟩

theorem exists_exec (i : Instr) (s : State) : ∃ t, exec i s = .next t := by
  rw [exec_eq_finish]
  cases perform i s with
  | ok u => exact ⟨_, finish_ok s u⟩
  | error e => exact ⟨_, finish_error s e⟩

/-! ### The frame of the writes, row by row of R50 -/

namespace Writes

/-- What no command writes. -/
theorem frame (h : Writes s i u) :
    u.irqEn = s.irqEn ∧ u.ovr = s.ovr ∧ u.textBuf = s.textBuf ∧ u.textLen = s.textLen ∧ u.curCmd = s.curCmd ∧
      u.bus = s.bus ∧ u.host = s.host ∧ u.delay = s.delay ∧ u.latency = s.latency ∧ u.ramInit = s.ramInit ∧
      u.fresh = s.fresh := by
  cases h <;> exact ⟨rfl, rfl, rfl, rfl, rfl, rfl, rfl, rfl, rfl, rfl, rfl⟩

theorem ovr_eq (h : Writes s i u) : u.ovr = s.ovr := by cases h <;> rfl

theorem delay_eq (h : Writes s i u) : u.delay = s.delay := by cases h <;> rfl

/-- The error record is the completion's to write (R118). -/
theorem record (h : Writes s i u) : u.err = s.err ∧ u.errCode = s.errCode ∧ u.errInfo = s.errInfo := by
  cases h <;> exact ⟨rfl, rfl, rfl⟩

theorem result_eq (h : Writes s i u) (hi : ¬ IsGf i) : u.result = s.result := by
  cases h with
  | result v hgf => exact absurd hgf hi
  | _ => rfl

theorem synd_eq (h : Writes s i u) (hi : i ≠ .rsSyndrome) : u.synd = s.synd := by
  cases h with
  | syndromes => exact absurd rfl hi
  | _ => rfl

theorem mode_eq (h : Writes s i u) (hcompose : i ≠ .compose) (hencode : i ≠ .encode) :
    u.modeAlnum = s.modeAlnum ∧ u.modeValid = s.modeValid ∧ u.dataBits = s.dataBits := by
  cases h with
  | composed => exact absurd rfl hcompose
  | symbol => exact absurd rfl hencode
  | _ => exact ⟨rfl, rfl, rfl⟩

theorem data_eq (h : Writes s i u) (hcompose : i ≠ .compose) (hencode : i ≠ .encode) (k : Fin 26) (hk : k.val < 19) :
    u.cwBuf[k] = s.cwBuf[k] := by
  cases h with
  | composed => exact absurd rfl hcompose
  | symbol => exact absurd rfl hencode
  | ecCodewords => simp [performRsEncode_cwBuf, withEc, hk]
  | _ => rfl

theorem ec_eq (h : Writes s i u) (hrs : i ≠ .rsEncode) (hencode : i ≠ .encode) (k : Fin 26) (hk : 19 ≤ k.val) :
    u.cwBuf[k] = s.cwBuf[k] := by
  cases h with
  | ecCodewords => exact absurd rfl hrs
  | symbol => exact absurd rfl hencode
  | composed => simp [setComposed_cwBuf, withData, Nat.not_lt.2 hk]
  | _ => rfl

theorem matrix_eq (h : Writes s i u) (hrender : ∀ m, i ≠ .render m) (hselect : i ≠ .select) (hencode : i ≠ .encode) :
    u.matrix = s.matrix := by
  cases h with
  | modules m => exact absurd rfl (hrender m)
  | selection => exact absurd rfl hselect
  | symbol => exact absurd rfl hencode
  | _ => rfl

theorem score_eq (h : Writes s i u) (hpenalty : i ≠ .penalty) (hselect : i ≠ .select) (hencode : i ≠ .encode) :
    u.penTotal = s.penTotal ∧ u.penRun = s.penRun ∧ u.penBlock = s.penBlock ∧ u.penFinder = s.penFinder ∧
      u.penBalance = s.penBalance ∧ u.blackCount = s.blackCount := by
  cases h with
  | score => exact absurd rfl hpenalty
  | selection => exact absurd rfl hselect
  | symbol => exact absurd rfl hencode
  | _ => exact ⟨rfl, rfl, rfl, rfl, rfl, rfl⟩

theorem best_eq (h : Writes s i u) (hselect : i ≠ .select) (hencode : i ≠ .encode) :
    u.maskPen = s.maskPen ∧ u.best = s.best ∧ u.bestMask = s.bestMask ∧ u.bestValid = s.bestValid ∧
      u.bestPenalty = s.bestPenalty := by
  cases h with
  | selection => exact absurd rfl hselect
  | symbol => exact absurd rfl hencode
  | _ => exact ⟨rfl, rfl, rfl, rfl, rfl⟩

end Writes

end

/-! ### Error codes (R341) -/

theorem code_bounds (k : ErrKind) : 1 ≤ k.code.toNat ∧ k.code.toNat ≤ 8 := by cases k <;> decide

/-! ### The obligations -/

/-- Settles O41: a command's writes keep the record (`Writes.record`), and an error writes only the record and the
completion. -/
theorem errorsArePrecise : Obligations.ErrorsArePrecise := by
  intro i s
  obtain ⟨t, ht⟩ := exists_exec i s
  refine ⟨t, ht, ?_⟩
  obtain ⟨u, hwrites, rfl⟩ | ⟨e, rfl⟩ := exec_writes_or_raises ht
  · exact ⟨rfl, rfl, .inl hwrites.record⟩
  · obtain ⟨hlow, hhigh⟩ := code_bounds e.kind
    exact ⟨rfl, rfl, .inr ⟨hlow, hhigh, rfl⟩⟩

/-- Settles O42: a completion writes DONE and `cmd_state`, a command that performs writes its row of R50, and one that
fails only the record. -/
theorem writeSets : Obligations.WriteSets := by
  intro i s t ht
  obtain ⟨u, h, rfl⟩ | ⟨e, rfl⟩ := exec_writes_or_raises ht
  · refine ⟨h.frame, fun hi => h.result_eq ?notGf, h.synd_eq,
      fun hcompose hencode => ?_, h.ec_eq, h.matrix_eq, h.score_eq, h.best_eq⟩
    case notGf =>
      rintro ⟨x, y, hgf⟩
      simp [hi x y] at hgf
    obtain ⟨hmode, hvalid, hbits⟩ := h.mode_eq hcompose hencode
    exact ⟨hmode, hvalid, hbits, h.data_eq hcompose hencode⟩
  · exact ⟨⟨rfl, rfl, rfl, rfl, rfl, rfl, rfl, rfl, rfl, rfl, rfl⟩, fun _ => rfl, fun _ => rfl,
      fun _ _ => ⟨rfl, rfl, rfl, fun _ _ => rfl⟩, fun _ _ _ _ => rfl, fun _ _ _ => rfl,
      fun _ _ _ => ⟨rfl, rfl, rfl, rfl, rfl, rfl⟩, fun _ _ => ⟨rfl, rfl, rfl, rfl, rfl⟩⟩

end Sys2Proof.Machine
end

section
/-! The invariant (R43 to R48, R117, R285, R313, R341): its clauses as one predicate on the command state and the error
record and one on what the commands leave, each kept by every completion and host event, and its obligations. -/

namespace Sys2Proof.Machine

open Sys2Proof Sys2Proof.Claims

/-! ### The invariant in two parts -/

/-- The command in flight and the record of the last one: STATUS, ERRINFO, `cmd_state` and the latency. -/
structure Record where
  done : Bool
  err : Bool
  errCode : BitVec 4
  errInfo : Word
  cmdState : CmdState
  delay : Nat

def State.record (s : State) : Record := ⟨s.done, s.err, s.errCode, s.errInfo, s.cmdState, s.delay⟩

/-- The clauses about the record. -/
structure Record.Inv (r : Record) : Prop where
  errCode_known : r.errCode.toNat ≤ 8
  err_has_code : r.err = true → r.errCode ≠ 0#4
  no_code_no_info : r.errCode = 0#4 → r.errInfo = 0#32
  pending_clear : r.cmdState = .pending → r.done = false ∧ r.err = false ∧ r.errCode = 0#4
  idle_delay : r.cmdState = .idle → r.delay = 0

/-- The registers the other clauses are about: MATRIX, the BEST and PEN registers, BLACK_COUNT and MODE_INFO. -/
structure Contents where
  matrix : Vector ModuleState 441
  best : Vector Bool 441
  bestMask : BitVec 3
  bestValid : Bool
  bestPenalty : BitVec 16
  maskPen : Vector (BitVec 16) 8
  penTotal : BitVec 16
  penRun : BitVec 16
  penBlock : BitVec 16
  penFinder : BitVec 16
  penBalance : BitVec 16
  blackCount : BitVec 9
  modeAlnum : Bool
  modeValid : Bool
  dataBits : BitVec 8

def State.contents (s : State) : Contents :=
  ⟨s.matrix, s.best, s.bestMask, s.bestValid, s.bestPenalty, s.maskPen, s.penTotal, s.penRun, s.penBlock,
    s.penFinder, s.penBalance, s.blackCount, s.modeAlnum, s.modeValid, s.dataBits⟩

/-- The BEST registers are those a selection has left (R312, R313). -/
def Contents.Selected (c : Contents) : Prop :=
  (∀ m : Fin 8, c.bestPenalty.toNat ≤ c.maskPen[m].toNat) ∧
  c.maskPen[c.bestMask.toFin] = c.bestPenalty ∧
  (∀ m : Fin 8, m.val < c.bestMask.toNat → c.bestPenalty.toNat < c.maskPen[m].toNat) ∧
  ShowsStructure c.bestMask c.best ∧ Rendered c.matrix

/-- The clauses about what the commands leave in these registers. -/
structure Contents.Inv (c : Contents) : Prop where
  matrix_shape : Unrendered c.matrix ∨ Rendered c.matrix
  no_best : c.bestValid = false →
    c.bestMask = 0#3 ∧ c.bestPenalty = 0#16 ∧ c.best = Vector.replicate 441 false ∧
    c.maskPen = Vector.replicate 8 0#16
  has_best : c.bestValid = true → c.Selected
  total_is_sum : c.penTotal = c.penRun + c.penBlock + c.penFinder + c.penBalance
  black_bound : c.blackCount.toNat ≤ 441
  mode_info : (c.modeValid = false → c.modeAlnum = false ∧ c.dataBits = 0#8) ∧ c.dataBits.toNat ≤ 152

section
variable {s t : State}

theorem inv_of_parts (r : s.record.Inv) (c : s.contents.Inv) : s.Inv :=
  ⟨r.errCode_known, r.err_has_code, r.no_code_no_info, r.pending_clear, r.idle_delay, c.matrix_shape, c.no_best,
    c.has_best, c.total_is_sum, c.black_bound, c.mode_info⟩

theorem State.Inv.of_record (h : s.Inv) : s.record.Inv :=
  ⟨h.errCode_known, h.err_has_code, h.no_code_no_info, h.pending_clear, h.idle_delay⟩

theorem State.Inv.of_contents (h : s.Inv) : s.contents.Inv :=
  ⟨h.matrix_shape, h.no_best, h.has_best, h.total_is_sum, h.black_bound, h.mode_info⟩

/-- A change outside the record and the contents keeps the invariant. -/
theorem State.Inv.congr (h : s.Inv) (hrecord : t.record = s.record) (hcontents : t.contents = s.contents) : t.Inv :=
  inv_of_parts (hrecord ▸ h.of_record) (hcontents ▸ h.of_contents)

end

/-! ### Rendered matrices and their colours (R248, R252) -/

@[simp] theorem colour_reservedModule (b : Bool) : (reservedModule b).colour = b := by cases b <;> rfl

@[simp] theorem colour_dataModule (b : Bool) : (dataModule b).colour = b := by cases b <;> rfl

theorem renderedUnder_render (cw : Vector Byte 26) (m : BitVec 3) : RenderedUnder m (render cw m) := by
  intro q
  rw [Fin.getElem_fin, getElem_render cw m q q.isLt]
  split
  next black hreserved => exact moduleAt_of_reserved hreserved
  next hfree =>
    rw [moduleAt_of_free hfree]
    cases xor _ _
    · exact .inl rfl
    · exact .inr rfl

theorem rendered_render (cw : Vector Byte 26) (m : BitVec 3) : Rendered (render cw m) :=
  ⟨m, renderedUnder_render cw m⟩

theorem showsStructure_colourGrid {m : BitVec 3} {mat : Vector ModuleState 441} (h : RenderedUnder m mat) :
    ShowsStructure m (colourGrid mat) := by
  intro q black hreserved
  have hq := h q
  rw [hreserved] at hq
  rw [Fin.getElem_fin, colourGrid, getElem_mapVec, ← Fin.getElem_fin, hq, colour_reservedModule]

/-! ### The commands' writes -/

section
variable {i : Instr} {s t u : State}

/-- PENALTY's registers hold the sum of the four costs and a number of modules (R44, R285). -/
theorem contents_inv_setScore (k : Vector Bool 441) (h : s.contents.Inv) :
    (setScore (scoreGrid k) s).contents.Inv where
  matrix_shape := h.matrix_shape
  no_best := h.no_best
  has_best := h.has_best
  total_is_sum := by
    show BitVec.ofNat 16 (scoreGrid k).total = _
    simp only [Score.total, BitVec.ofNat_add]
    rfl
  black_bound := (toNat_setScore_blackCount k s).trans_le (scoreGrid_black_le k)
  mode_info := h.mode_info

/-- What SELECT leaves in the BEST registers is a first least total, and the structure of its mask (R311 to R313). -/
theorem contents_inv_performSelect (h : s.contents.Inv) : (performSelect s).contents.Inv := by
  obtain ⟨best, htrial, hleast, hfirst⟩ := bestTrial_eq_trial s.cwBuf
  have htotals (m : Fin 8) : (maskTotals s.cwBuf)[m].toNat = maskTotal s.cwBuf (BitVec.ofFin m) :=
    toNat_getElem_maskTotals s.cwBuf (BitVec.ofFin m)
  have hbest := toNat_getElem_maskTotals s.cwBuf best
  rw [performSelect_eq htrial]
  apply contents_inv_setScore
  exact {
    matrix_shape := .inr (rendered_render _ _)
    no_best := fun hvalid => (nomatch hvalid)
    has_best := fun _ => ⟨fun m => (hbest.trans_le (hleast _)).trans_eq (htotals m).symm, rfl,
      fun m hm => (hbest.trans_lt (hfirst _ hm)).trans_eq (htotals m).symm,
      showsStructure_colourGrid (renderedUnder_render _ _), rendered_render _ _⟩
    total_is_sum := h.total_is_sum
    black_bound := h.black_bound
    mode_info := h.mode_info }

theorem contents_inv_setComposed (haccepted : Accepted s) (h : s.contents.Inv) :
    (setComposed s.text s).contents.Inv where
  matrix_shape := h.matrix_shape
  no_best := h.no_best
  has_best := h.has_best
  total_is_sum := h.total_is_sum
  black_bound := h.black_bound
  mode_info := by
    obtain ⟨-, -, hlength⟩ := haccepted
    refine ⟨fun hvalid => (nomatch hvalid), ?_⟩
    have hbits : (setComposed s.text s).contents.dataBits.toNat = (compose s.text).length % 2 ^ 8 :=
      BitVec.toNat_ofNat _ _
    rw [hbits, length_compose]
    omega

/-- A rendered matrix may take MATRIX's place: BEST asks for nothing more of it (R252). -/
theorem contents_inv_performRender (m : BitVec 3) (h : s.contents.Inv) : (performRender m s).contents.Inv where
  matrix_shape := .inr (rendered_render s.cwBuf m)
  no_best := h.no_best
  has_best hvalid := by
    obtain ⟨hleast, hmask, hfirst, hstructure, -⟩ := h.has_best hvalid
    exact ⟨hleast, hmask, hfirst, hstructure, rendered_render s.cwBuf m⟩
  total_is_sum := h.total_is_sum
  black_bound := h.black_bound
  mode_info := h.mode_info

theorem contents_performRsEncode (s : State) : (performRsEncode s).contents = s.contents := rfl

theorem Writes.contents_inv (hwrites : Writes s i u) (h : s.contents.Inv) : u.contents.Inv := by
  cases hwrites with
  | nothing | result | ecCodewords | syndromes => exact h
  | composed haccepted => exact contents_inv_setComposed haccepted h
  | modules m => exact contents_inv_performRender m h
  | score => exact contents_inv_setScore _ h
  | selection hselect =>
    rw [← hselect]
    exact contents_inv_performSelect h
  | symbol haccepted hselect =>
    have hcomposed := contents_inv_setComposed haccepted h
    rw [← contents_performRsEncode] at hcomposed
    rw [← hselect]
    exact contents_inv_performSelect hcomposed

/-! ### Completions (R118, R344) -/

theorem inv_completeOk (hdelay : s.delay = 0) (hwrites : Writes s i u) (h : s.Inv) : (completeOk u).Inv := by
  obtain ⟨herr, hcode, hinfo⟩ := hwrites.record
  have hrecord : (completeOk u).record = ⟨true, s.err, s.errCode, s.errInfo, .idle, 0⟩ := by
    simp [State.record, herr, hcode, hinfo, hwrites.delay_eq, hdelay]
  refine inv_of_parts (hrecord ▸ ?_) (hwrites.contents_inv h.of_contents)
  exact ⟨h.errCode_known, h.err_has_code, h.no_code_no_info, fun hpending => (nomatch hpending), fun _ => rfl⟩

theorem inv_raiseError (e : CmdError) (hdelay : s.delay = 0) (h : s.Inv) : (raiseError e s).Inv := by
  have hcode : e.kind.code ≠ 0#4 := by cases e.kind <;> decide
  exact inv_of_parts ⟨(code_bounds e.kind).2, fun _ => hcode, fun hzero => absurd hzero hcode,
    fun hpending => (nomatch hpending), fun _ => hdelay⟩ h.of_contents

end

/-! ### Resets (R51, R380, R381) -/

theorem contents_inv_reset : State.reset.contents.Inv where
  matrix_shape := .inl fun q => Vector.getElem_replicate q.isLt
  no_best _ := ⟨rfl, rfl, rfl, rfl⟩
  has_best hvalid := (nomatch hvalid)
  total_is_sum := rfl
  black_bound := by decide
  mode_info := ⟨fun _ => ⟨rfl, rfl⟩, by decide⟩

theorem inv_reset : State.reset.Inv :=
  inv_of_parts ⟨by decide, fun herr => (nomatch herr), fun _ => rfl, fun hpending => (nomatch hpending), fun _ => rfl⟩
    contents_inv_reset

theorem inv_softReset (s : State) : (softReset s).Inv := inv_reset.congr rfl rfl

theorem inv_resetEdge (x : Option Transfer) (s : State) : (resetEdge x s).Inv := by
  cases x with
  | none => exact inv_reset.congr rfl rfl
  | some _ => exact inv_reset.congr rfl rfl

/-! ### The host's edges -/

section
variable {s : State}

theorem inv_clearStatus (d : Word) (h : s.Inv) : (s.clearStatus d).Inv := by
  refine inv_of_parts ⟨h.errCode_known, fun herr => ?hasCode, h.no_code_no_info, fun hpending => ?clear,
    h.idle_delay⟩ h.of_contents
  case hasCode => exact h.err_has_code (Bool.and_eq_true_iff.1 herr).1
  case clear =>
    obtain ⟨hdone, herr, hcode⟩ := h.pending_clear hpending
    exact ⟨Bool.and_eq_false_imp.2 fun hd => absurd hd (by simp [hdone]),
      Bool.and_eq_false_imp.2 fun he => absurd he (by simp [herr]), hcode⟩

theorem inv_issue (w : Word) (h : s.Inv) : (issue w s).Inv :=
  inv_of_parts ⟨Nat.zero_le 8, fun herr => (nomatch herr), fun _ => rfl, fun _ => ⟨rfl, rfl, rfl⟩,
    fun hidle => (nomatch hidle)⟩ h.of_contents

theorem inv_poke (t : Target) (d : Word) (h : s.Inv) : (poke t d s).Inv := by
  obtain heq | heq | heq | heq | heq | ⟨-, heq | heq | ⟨i, heq⟩ | ⟨i, heq⟩⟩ := poke_cases t d s <;> rw [heq]
  · exact h
  · exact inv_clearStatus d h
  · exact h.congr rfl rfl
  · exact inv_softReset s
  · exact h.congr rfl rfl
  · exact inv_issue d h
  · exact h.congr rfl rfl
  · exact h.congr rfl rfl
  · exact h.congr rfl rfl

theorem inv_hostTransfer (x : Transfer) (h : s.Inv) : (hostTransfer x s).Inv := by
  obtain ⟨r, heq | heq | ⟨t, d, heq⟩⟩ := hostTransfer_cases x s <;> rw [heq]
  · exact h.congr rfl rfl
  · exact h.congr rfl rfl
  · exact (inv_poke t d h).congr rfl rfl

theorem inv_hostStep (h : s.Inv) : (hostStep s).Inv := by
  unfold hostStep
  split
  · exact h
  · exact h.congr rfl rfl
  · exact inv_hostTransfer _ (h.congr rfl rfl)
  · exact h.congr rfl rfl
  · exact inv_resetEdge _ _

theorem inv_tick (h : s.Inv) : (tick s).Inv :=
  inv_of_parts ⟨h.errCode_known, h.err_has_code, h.no_code_no_info, h.pending_clear,
    fun hidle => by rw [State.record, tick_delay, h.idle_delay hidle]⟩ h.of_contents

theorem inv_quiet (h : s.Inv) : (quiet s).Inv := h.congr rfl rfl

end

/-! ### The obligations -/

/-- Settles O59: every clause holds of the reset values. -/
theorem resetMeetsInvariant : Obligations.ResetMeetsInvariant := inv_reset

/-- Settles O60: a step is a completion with its writes, an error completion, or the host's edge (`step_cases`), and
each keeps the two parts of the invariant. -/
theorem everyStepKeepsInvariant : Obligations.EveryStepKeepsInvariant := by
  intro s t h hstep
  obtain ⟨-, -, hdelay, ⟨i, u, -, hperform, rfl⟩ | ⟨e, rfl⟩⟩ | ⟨-, rfl⟩ := step_cases hstep
  · exact inv_completeOk (s := quiet s) hdelay (writes_of_perform hperform) (inv_quiet h)
  · exact inv_raiseError (s := quiet s) e hdelay (inv_quiet h)
  · exact inv_hostStep (inv_tick (inv_quiet h))

end Sys2Proof.Machine
end

section
/-! The sequencer (R117, R118, R392): a step by whether a completion is due, the countdown of the latency, an issue
and its completion, and the obligations about them. -/

namespace Sys2Proof.Machine

open Sys2Proof Sys2Proof.Claims

/-! ### One step by whether a completion is due -/

section
variable {s : State}

theorem inReset_eq_false_iff : s.inReset = false ↔ ∀ x, s.host.head? ≠ some (.hwReset x) := by
  rw [← Bool.not_eq_true, inReset_iff]
  cases s.host <;> simp

theorem completionDue_iff_due : completionDue s = true ↔ Due s := by
  rw [completionDue_iff, inReset_eq_false_iff]
  exact and_comm.trans and_assoc

theorem step_of_due (h : Due s) : step s = completionStep s := if_pos (completionDue_iff_due.2 h)

theorem step_of_not_due (h : ¬ Due s) : step s = .next (hostEdge s) := if_neg (mt completionDue_iff_due.1 h)

theorem completionStep_of_legal {i : Instr} (h : decode s.curCmd = .ok i) :
    completionStep s = exec i (quiet s) := by
  rw [completionStep, h]

theorem completionStep_of_illegal {e : Illegal} (h : decode s.curCmd = .error e) :
    completionStep s = .next (raiseError ⟨.illegalCommand, s.curCmd⟩ (quiet s)) := by
  rw [completionStep, h]

/-- The completion step always completes the command (R118, R342). -/
theorem completionStep_completes (s : State) :
    ∃ t, completionStep s = .next t ∧ t.done = true ∧ t.cmdState = .idle := by
  cases h : decode s.curCmd with
  | ok i =>
    obtain ⟨t, ht, hdone, hidle, -⟩ := errorsArePrecise i (quiet s)
    exact ⟨t, (completionStep_of_legal h).trans ht, hdone, hidle⟩
  | error e => exact ⟨_, completionStep_of_illegal h, rfl, rfl⟩

end

/-- Settles O39: a due step is the completion step, which decodes CUR_CMD. -/
theorem stepRunsDecodedCommand : Obligations.StepRunsDecodedCommand :=
  fun _ _ hdue hdecode => (step_of_due hdue).trans (completionStep_of_legal hdecode)

/-- Settles O40: the completion step of an illegal word raises ILLEGAL_COMMAND with the word
(`completionStep_of_illegal`). -/
theorem illegalWordCompletesWithError : Obligations.IllegalWordCompletesWithError := by
  intro s hdue hillegal
  cases h : decode s.curCmd with
  | ok i => exact absurd h (hillegal i)
  | error e => exact (step_of_due hdue).trans (completionStep_of_illegal h)

/-- Settles O43: a completion step completes, and the host's edge is a state. -/
theorem noStateLocksUp : Obligations.NoStateLocksUp := by
  intro s
  by_cases hdue : Due s
  · obtain ⟨t, ht, -⟩ := completionStep_completes s
    exact ⟨t, (step_of_due hdue).trans ht⟩
  · exact ⟨_, step_of_not_due hdue⟩

/-- Settles O48: an edge with no completion due is the tick of the latency and the host's transfer. -/
theorem stepPerformsHostTransfer : Obligations.StepPerformsHostTransfer := by
  intro s t rest hdue hhost
  rw [step_of_not_due hdue, hostEdge, hostStep, tick_host, quiet_host, hhost]
  rfl

/-! ### Runs -/

section
variable {s t : State}

theorem run_succ_of_step {k : Nat} (h : step s = .next t) :
    Sys2Proof.core.run (k + 1) s = Sys2Proof.core.run k t := by
  have hstep : Sys2Proof.core.step s = .next t := h
  simp only [Host.Core.run, hstep]

theorem run_one (s : State) : Sys2Proof.core.run 1 s = step s := by
  obtain ⟨t, ht⟩ := noStateLocksUp s
  exact (run_succ_of_step ht).trans ht.symm

/-- A command in flight with edges to pass and no host event to come only counts down (R392). -/
theorem step_of_waiting {n : Nat} (hdelay : s.delay = n + 1) (hhost : s.host = []) :
    step s = .next { s with bus := none, delay := n } := by
  have hdue : ¬ Due s := fun ⟨_, hzero, _⟩ => by omega
  have hedge : hostEdge s = tick (quiet s) := by rw [hostEdge, hostStep, tick_host, quiet_host, hhost]
  rw [step_of_not_due hdue, hedge, tick, quiet_delay, hdelay]
  rfl

/-- The completion step takes no notice of the bus: no transfer completes at its edge. -/
theorem step_of_due_congr {b : Option BusResponse} (h : Due s) : step { s with bus := b } = step s :=
  (step_of_due (s := { s with bus := b }) h).trans (step_of_due h).symm

theorem run_of_waiting (n : Nat) (s : State) (hpending : s.cmdState = .pending) (hhost : s.host = [])
    (hdelay : s.delay = n) : Sys2Proof.core.run (n + 1) s = step { s with delay := 0 } := by
  induction n generalizing s with
  | zero => rw [run_one, ← hdelay]
  | succ n ih =>
    have hdue : Due { s with delay := 0 } := ⟨hpending, rfl, by simp [hhost]⟩
    exact (run_succ_of_step (step_of_waiting hdelay hhost)).trans
      ((ih { s with bus := none, delay := n } hpending hhost rfl).trans (step_of_due_congr hdue))

end

/-- Settles O44: the latency counts down to the completion step (`run_of_waiting`), which completes. -/
theorem commandCompletesAfterLatency : Obligations.CommandCompletesAfterLatency := by
  intro s hpending hhost
  have hrun := run_of_waiting s.delay s hpending hhost rfl
  have hdue : Due { s with delay := 0 } := ⟨hpending, rfl, by simp [hhost]⟩
  obtain ⟨t, ht, hdone, hidle⟩ := completionStep_completes { s with delay := 0 }
  exact ⟨hrun, t, (hrun.trans (step_of_due hdue)).trans ht, hdone, hidle⟩

/-- The state in which a command issued with latency 1 is due: the record cleared and no edge to pass (R117). -/
theorem quiet_respond_issue {s : State} (hdelay : s.delay = 0) (hlatency : s.latency = []) (w : Word)
    (r : BusResponse) (rest : List HostEvent) :
    quiet (respond r (issue w { s with host := rest, bus := none, delay := s.delay - 1 })) = { s with
      host := rest, bus := none, curCmd := w, cmdState := .pending, done := false, err := false,
      errCode := 0#4, errInfo := 0#32 } := by
  simp [quiet, respond, issue_eq, hdelay, hlatency]

/-- Settles O45: the first step is the write to CMD, which issues the command; then its completion is due at once. -/
theorem issueThenCompletion : Obligations.IssueThenCompletion := by
  intro s i rest hidle hdelay hlatency hhost hnoReset
  have hnotDue : ¬ Due s := fun ⟨hpending, _⟩ => by simp [hidle] at hpending
  have hissue := stepPerformsHostTransfer s _ rest hnotDue hhost
  rw [hostTransfer_write_cmd, unlessBusy_idle (by exact hidle)] at hissue
  have hdue : Due (respond ⟨none, false⟩ (issue (encode i) { s with
      host := rest, bus := none, delay := s.delay - 1 })) :=
    ⟨rfl, congrArg (List.headD · 0) hlatency, hnoReset⟩
  have hexec := (step_of_due hdue).trans (completionStep_of_legal (decode_encode i))
  rw [quiet_respond_issue hdelay hlatency] at hexec
  exact (run_succ_of_step hissue).trans ((run_one _).trans hexec)

end Sys2Proof.Machine
end

section
/-! The host port (R32 to R49, R80 to R91, R381, R382, R390, R391): the address map read backwards, transfers by
target, the registers as sums of their fields, and the obligations about them. -/

namespace Sys2Proof.Machine

open Sys2Proof Sys2Proof.Claims

/-! ### The address map (R84) -/

theorem addr_of_mem_singleRegisters : ∀ p ∈ singleRegisters, p.2.addr.toNat = p.1 := by decide

theorem addr_of_lookup {a : Nat} {t : Target} (h : singleRegisters.lookup a = some t) : t.addr.toNat = a := by
  obtain ⟨l₁, l₂, hlist, -⟩ := List.lookup_eq_some_iff.1 h
  exact addr_of_mem_singleRegisters (a, t) (hlist ▸ List.mem_append_right l₁ List.mem_cons_self)

/-- A window's element `i` is at its base plus 4·i. -/
theorem add_four_mul_of_inWindow {base n a : Nat} {i : Fin n} (hbase : base % 4 = 0) (ha : a % 4 = 0)
    (h : inWindow base n a = some i) : base + 4 * i.val = a := by
  unfold inWindow at h
  split at h
  · obtain rfl := Option.some.inj h
    show base + 4 * ((a - base) / 4) = a
    omega
  · cases h

theorem addr_of_mapLookup {a : Nat} {t : Target} (ha : a % 4 = 0) (hlt : a < 2 ^ 14) (h : mapLookup a = some t) :
    t.addr.toNat = a := by
  have helement {base n : Nat} {i : Fin n} (hbase : base % 4 = 0) (hi : inWindow base n a = some i) :
      (BitVec.ofNat 14 (base + 4 * i.val)).toNat = a := by
    rw [add_four_mul_of_inWindow hbase ha hi, BitVec.toNat_ofNat, Nat.mod_eq_of_lt hlt]
  simp only [mapLookup, Option.or_eq_some_iff, Option.map_eq_some_iff] at h
  obtain h | ⟨-, ⟨i, hi, rfl⟩ | ⟨-, ⟨i, hi, rfl⟩ | ⟨-, ⟨i, hi, rfl⟩ | ⟨-, ⟨i, hi, rfl⟩ | ⟨-, ⟨i, hi, rfl⟩ |
    ⟨-, ⟨i, hi, rfl⟩ | ⟨-, i, hi, rfl⟩⟩⟩⟩⟩⟩⟩ := h
  · exact addr_of_lookup h
  all_goals exact helement rfl hi

theorem decodeAddr_eq_ok_iff {a : Addr} {t : Target} : decodeAddr a = .ok t ↔ t.addr = a := by
  constructor
  · intro h
    unfold decodeAddr at h
    split at h
    · cases h
    next haligned =>
      split at h
      next u hu =>
        obtain rfl := Except.ok.inj h
        exact BitVec.eq_of_toNat_eq (addr_of_mapLookup (not_not.1 haligned) a.isLt hu)
      next => cases h
  · rintro rfl
    exact decodeAddr_addr t

/-- Settles O46: each row of the map gives back the address it was found at (`addr_of_mapLookup`). -/
theorem addressMapIsOneToOne : Obligations.AddressMapIsOneToOne := fun _ _ => decodeAddr_eq_ok_iff

theorem decodeAddr_of_no_target {a : Addr} (h : ∀ t : Target, t.addr ≠ a) :
    decodeAddr a = .error (if a.toNat % 4 ≠ 0 then .misaligned else .unmapped) := by
  cases hdecode : decodeAddr a with
  | ok t => exact absurd (decodeAddr_eq_ok_iff.1 hdecode) (h t)
  | error e =>
    unfold decodeAddr at hdecode
    split at hdecode
    next hmisaligned => rw [if_pos hmisaligned, ← hdecode]
    next haligned =>
      rw [if_neg haligned]
      split at hdecode
      · cases hdecode
      · exact hdecode.symm

/-- Settles O47: no target is at the address (`decodeAddr_of_no_target`), so each transfer is a response alone. -/
theorem busErrorsChangeNothing : Obligations.BusErrorsChangeNothing := by
  intro s a d hnone
  have hdecode := decodeAddr_of_no_target hnone
  refine ⟨by rw [hostTransfer, hostRead, hdecode, respond], ?_⟩
  rw [hostTransfer, hostWrite, hdecode]
  by_cases hmisaligned : a.toNat % 4 ≠ 0
  · rw [if_pos hmisaligned]
    exact ⟨some 0#32, rfl, fun _ => rfl⟩
  · rw [if_neg hmisaligned]
    exact ⟨none, rfl, fun h => absurd h hmisaligned⟩

/-! ### Reads (R87, R391) -/

theorem definedWhileBusy_iff (t : Target) : t.definedWhileBusy = true ↔ t = .id ∨ t = .ctrl ∨ t = .status := by
  cases t <;> simp [Target.definedWhileBusy]

section
variable {s : State} {t : Target}

theorem read_of_defined (h : s.cmdState = .idle ∨ t.definedWhileBusy = true) :
    hostTransfer (.read t.addr) s = respond ⟨some (peek s t), false⟩ s := by
  have hdefined : (s.busy && !t.definedWhileBusy) = false := by
    obtain h | h := h <;> simp [State.busy, h]
  rw [hostTransfer, hostRead, decodeAddr_addr]
  simp only [hdefined, Bool.false_eq_true, if_false]

theorem read_of_undefined (hpending : s.cmdState = .pending) (h : t.definedWhileBusy = false) :
    hostTransfer (.read t.addr) s =
      respond ⟨some (Config.freeWord s.fresh), false⟩ { s with fresh := s.fresh + 1 } := by
  have hundefined : (s.busy && !t.definedWhileBusy) = true := by simp [State.busy, hpending, h]
  rw [hostTransfer, hostRead, decodeAddr_addr]
  simp only [hundefined, if_true]

end

/-- Settles O49: a read answers the register's value or draws a free word, by `Target.definedWhileBusy`. -/
theorem readsHaveNoSideEffects : Obligations.ReadsHaveNoSideEffects := by
  intro s t
  refine ⟨?unit, fun h => read_of_defined (h.imp_right (definedWhileBusy_iff t).2),
    fun hpending hid hctrl hstatus => ?free⟩
  case free =>
    refine read_of_undefined hpending (Bool.eq_false_iff.2 fun hdefined => ?_)
    obtain h | h | h := (definedWhileBusy_iff t).1 hdefined
    exacts [hid h, hctrl h, hstatus h]
  case unit =>
    cases hcmd : s.cmdState with
    | idle => rw [read_of_defined (.inl hcmd)]; rfl
    | pending =>
      cases hdefined : t.definedWhileBusy with
      | true => rw [read_of_defined (.inr hdefined)]; rfl
      | false => rw [read_of_undefined hcmd hdefined]; rfl

/-! ### The registers bit by bit (R33 to R49) -/

theorem statusBits : ∀ (busy done err ovr : Bool) (code : BitVec 4),
    bitAt 0 busy ||| bitAt 1 done ||| bitAt 2 err ||| bitAt 3 ovr ||| (code.setWidth 32 <<< 8) =
      BitVec.ofNat 32 (busy.toNat + 2 * done.toNat + 4 * err.toNat + 8 * ovr.toNat + 256 * code.toNat) := by
  decide +kernel

theorem modeInfoBits : ∀ (mode valid : Bool) (bits : BitVec 8),
    bitAt 0 mode ||| bitAt 1 valid ||| (bits.setWidth 32 <<< 8) =
      BitVec.ofNat 32 (mode.toNat + 2 * valid.toNat + 256 * bits.toNat) := by
  decide +kernel

theorem bestInfoBits : ∀ (mask : BitVec 3) (valid : Bool),
    mask.setWidth 32 ||| bitAt 8 valid = BitVec.ofNat 32 (mask.toNat + 256 * valid.toNat) := by
  decide +kernel

theorem statusWord_eq_sum (s : State) :
    s.statusWord = BitVec.ofNat 32 ((if s.cmdState = .pending then 1 else 0) + 2 * s.done.toNat + 4 * s.err.toNat +
      8 * s.ovr.toNat + 256 * s.errCode.toNat) := by
  have hbusy : s.busy.toNat = if s.cmdState = .pending then 1 else 0 := by
    cases h : s.cmdState <;> simp [State.busy, h]
  rw [State.statusWord, statusBits, hbusy]

theorem moduleCode_eq (m : ModuleState) : m.code.setWidth 32 = BitVec.ofNat 32 (moduleCode m) := by cases m <;> rfl

/-- Settles O50: the packed words are sums of their fields (`statusBits`, `modeInfoBits`, `bestInfoBits`), and every
other target reads one value in its low bits. -/
theorem packedRegisterLayout : Obligations.PackedRegisterLayout := by
  intro s
  have hlow {w : Nat} (x : BitVec w) : x.setWidth 32 = BitVec.ofNat 32 x.toNat := (BitVec.ofNat_toNat 32 x).symm
  have hbit1 : ∀ b : Bool, bitAt 1 b = BitVec.ofNat 32 (2 * b.toNat) := by decide
  have hbit0 : ∀ b : Bool, bitAt 0 b = BitVec.ofNat 32 b.toNat := by decide
  have hgenRom : ∀ k : Fin 8, genRom[k].setWidth 32 =
      BitVec.ofNat 32 ([1, 127, 122, 154, 164, 11, 68, 117].getD k.val 0) := by decide
  exact ⟨rfl, rfl, hbit1 s.irqEn, statusWord_eq_sum s, hlow _, rfl, hlow _, modeInfoBits _ _ _, hlow _, hlow _, hlow _,
    hlow _, hlow _, hlow _, bestInfoBits _ _, hlow _, fun m => hlow _, fun j => hlow _, hgenRom, fun i => hlow _,
    fun i => hlow _, fun q => moduleCode_eq _, fun q => hbit0 _⟩

/-! ### Writes (R38 to R40, R86, R390) -/

section
variable {s : State} {t u : Target} {d : Word}

theorem hostTransfer_write_addr (t : Target) (d : Word) (s : State) :
    hostTransfer (.write t.addr d) s = respond ⟨none, false⟩ (poke t d s) := hostWrite_addr t d s

/-- The targets that store the low bits of a written word (R38 to R40). -/
def IsBuffer (t : Target) : Prop := t = .textLen ∨ (∃ i, t = .textBuf i) ∨ ∃ i, t = .cwBuf i

theorem peek_respond (r : BusResponse) (s : State) (u : Target) : peek (respond r s) u = peek s u := by
  cases u <;> rfl

/-- A buffer write leaves what every other target reads. -/
theorem peek_poke_of_ne (hidle : s.cmdState = .idle) (ht : IsBuffer t) (hu : u ≠ t) :
    peek (poke t d s) u = peek s u := by
  obtain rfl | ⟨i, rfl⟩ | ⟨i, rfl⟩ := ht
  · rw [poke, unlessBusy_idle hidle]
    cases u with
    | textLen => exact absurd rfl hu
    | _ => rfl
  · rw [poke, unlessBusy_idle hidle]
    cases u with
    | textBuf j =>
      have hij : i.val ≠ j.val := fun h => hu (congrArg Target.textBuf (Fin.ext h.symm))
      exact congrArg (BitVec.setWidth 32) (Vector.getElem_set_ne i.isLt j.isLt hij)
    | _ => rfl
  · rw [poke, unlessBusy_idle hidle]
    cases u with
    | cwBuf j =>
      have hij : i.val ≠ j.val := fun h => hu (congrArg Target.cwBuf (Fin.ext h.symm))
      exact congrArg (BitVec.setWidth 32) (Vector.getElem_set_ne i.isLt j.isLt hij)
    | _ => rfl

theorem toNat_setWidth_setWidth {w : Nat} (d : Word) (hw : w ≤ 32) :
    ((d.setWidth w).setWidth 32).toNat = d.toNat % 2 ^ w := by
  rw [BitVec.toNat_setWidth_of_le hw, BitVec.toNat_setWidth]

theorem toNat_peek_poke (hidle : s.cmdState = .idle) (ht : IsBuffer t) :
    (peek (poke t d s) t).toNat = d.toNat % (if t = .textLen then 512 else 256) := by
  obtain rfl | ⟨i, rfl⟩ | ⟨i, rfl⟩ := ht <;> rw [poke, unlessBusy_idle hidle]
  · exact toNat_setWidth_setWidth d (by decide)
  · rw [peek, Fin.getElem_fin, Vector.getElem_set_self, toNat_setWidth_setWidth d (by decide)]
    rfl
  · rw [peek, Fin.getElem_fin, Vector.getElem_set_self, toNat_setWidth_setWidth d (by decide)]
    rfl

end

/-- Settles O51: the write is of one field, which only its own target reads (`peek_poke_of_ne`). -/
theorem bufferWriteAndItsFrame : Obligations.BufferWriteAndItsFrame := by
  intro s t u d hidle ht
  rw [hostTransfer_write_addr, peek_respond, peek_respond]
  exact ⟨peek_poke_of_ne hidle ht, toNat_peek_poke hidle ht, rfl⟩

/-- Settles O52: a write to a read-only target is no change, and one dropped while BUSY = 1 sets OVR alone. -/
theorem writesThatDoNotStore : Obligations.WritesThatDoNotStore := by
  intro s t d
  rw [hostTransfer_write_addr]
  constructor
  · intro hctrl hstatus hcmd htextLen htextBuf hcwBuf
    cases t with
    | ctrl => exact absurd rfl hctrl
    | status => exact absurd rfl hstatus
    | cmd => exact absurd rfl hcmd
    | textLen => exact absurd rfl htextLen
    | textBuf i => exact absurd rfl (htextBuf i)
    | cwBuf i => exact absurd rfl (hcwBuf i)
    | _ => rfl
  · rintro hpending (rfl | rfl | ⟨i, rfl⟩ | ⟨i, rfl⟩) <;> rw [poke, unlessBusy_pending hpending, respond]

theorem hostTransfer_write_status (d : Word) (s : State) :
    hostTransfer (.write 0x0008#14 d) s = respond ⟨none, false⟩ (s.clearStatus d) :=
  hostTransfer_write_addr .status d s

theorem hostTransfer_write_ctrl (d : Word) (s : State) :
    hostTransfer (.write 0x0004#14 d) s = respond ⟨none, false⟩ (writeCtrl d s) :=
  hostTransfer_write_addr .ctrl d s

theorem writeCtrl_of_srst {d : Word} (h : d[0] = true) (s : State) : writeCtrl d s = softReset s := if_pos h

theorem writeCtrl_of_no_srst {d : Word} (h : d[0] = false) (s : State) : writeCtrl d s = s.setIrqEn d :=
  if_neg (Bool.eq_false_iff.1 h)

/-- Settles O54: the two registers' writes, of which CTRL's is no soft reset. -/
theorem statusAndControlWrites : Obligations.StatusAndControlWrites := by
  intro s d
  refine ⟨hostTransfer_write_status d s, fun hsrst => ?_⟩
  rw [hostTransfer_write_ctrl, writeCtrl_of_no_srst hsrst]
  exact ⟨rfl, rfl⟩

/-! ### OVR (R36, R390) -/

section
variable {s : State}

theorem ovr_unlessBusy {write : State → State} (hwrite : (write s).ovr = s.ovr) (h : s.ovr = true) :
    (unlessBusy s write).ovr = true := by
  obtain ⟨-, heq⟩ | ⟨-, heq⟩ := unlessBusy_cases s write <;> rw [heq]
  exact hwrite.trans h

/-- Of the writes only those to STATUS and CTRL can clear OVR. -/
theorem ovr_cleared_by_poke {t : Target} {d : Word} (h : s.ovr = true) (hclear : (poke t d s).ovr = false) :
    t = .status ∧ d[3] = true ∨ t = .ctrl ∧ d[0] = true := by
  cases t with
  | status => exact .inl ⟨rfl, by simpa [poke, State.clearStatus, h] using hclear⟩
  | ctrl =>
    refine .inr ⟨rfl, Bool.not_eq_false _ ▸ fun hsrst => ?_⟩
    rw [poke, writeCtrl_of_no_srst hsrst, setIrqEn_ovr, h] at hclear
    cases hclear
  | cmd | textLen | textBuf i | cwBuf i => cases (ovr_unlessBusy rfl h).symm.trans hclear
  | _ => cases h.symm.trans hclear

theorem ovr_hostRead (a : Addr) (s : State) : (hostRead a s).ovr = s.ovr := by
  unfold hostRead
  split
  · rfl
  · split <;> rfl

theorem ovr_cleared_by_transfer {x : Transfer} (h : s.ovr = true) (hclear : (hostTransfer x s).ovr = false) :
    (∃ d, x = .write 0x0008#14 d ∧ d[3] = true) ∨ ∃ d, x = .write 0x0004#14 d ∧ d[0] = true := by
  cases x with
  | read a => cases ((ovr_hostRead a s).trans h).symm.trans hclear
  | write a d =>
    by_cases htarget : ∃ t : Target, t.addr = a
    · obtain ⟨t, rfl⟩ := htarget
      rw [hostTransfer_write_addr, respond_ovr] at hclear
      obtain ⟨rfl, hbit⟩ | ⟨rfl, hbit⟩ := ovr_cleared_by_poke h hclear
      · exact .inl ⟨d, rfl, hbit⟩
      · exact .inr ⟨d, rfl, hbit⟩
    · obtain ⟨-, r, heq, -⟩ := busErrorsChangeNothing s a d fun t ht => htarget ⟨t, ht⟩
      rw [heq] at hclear
      cases h.symm.trans hclear

end

/-- Settles O55: a completion keeps OVR (`Writes.ovr_eq`), and of the host's events only the two writes of
`ovr_cleared_by_transfer` and a hardware reset clear it. -/
theorem ovrIsSticky : Obligations.OvrIsSticky := by
  intro s t hstep hset hclear
  obtain ⟨-, -, -, ⟨i, u, -, hperform, rfl⟩ | ⟨e, rfl⟩⟩ | ⟨-, rfl⟩ := step_cases hstep
  · cases ((writes_of_perform hperform).ovr_eq.trans hset).symm.trans hclear
  · cases hset.symm.trans hclear
  · rw [hostEdge, hostStep, tick_host, quiet_host] at hclear
    split at hclear
    next => cases hset.symm.trans hclear
    next => cases hset.symm.trans hclear
    next x rest hhost =>
      obtain ⟨d, rfl, hbit⟩ | ⟨d, rfl, hbit⟩ :=
        ovr_cleared_by_transfer (s := { tick (quiet s) with host := rest }) hset hclear
      · exact ⟨rest, .inl ⟨d, hhost, hbit⟩⟩
      · exact ⟨rest, .inr (.inl ⟨d, hhost, hbit⟩)⟩
    next => cases hset.symm.trans hclear
    next x rest hhost => exact ⟨rest, .inr (.inr ⟨x, hhost⟩)⟩

/-! ### Soft reset (R381, R382) -/

/-- Settles O57: an idle unit abandons nothing, so the soft reset keeps both buffers (`softReset_idle`). -/
theorem softResetKeepsBuffers : Obligations.SoftResetKeepsBuffers := by
  intro s d hidle hsrst
  rw [hostTransfer_write_ctrl, writeCtrl_of_srst hsrst, softReset_idle hidle]
  rfl

/-- R382's table by the decoded word. -/
theorem wordCouldWriteCw_iff (w : Word) (k : Nat) : wordCouldWriteCw w k = true ↔
    (k < 19 ∧ (decode w = .ok .compose ∨ decode w = .ok .encode)) ∨
      (19 ≤ k ∧ (decode w = .ok .rsEncode ∨ decode w = .ok .encode)) := by
  unfold wordCouldWriteCw
  cases decode w with
  | error e => simp
  | ok i =>
    cases i with
    | encode => simpa [couldWriteCw] using Nat.lt_or_ge k 19
    | _ => simp [couldWriteCw]

/-- Settles O58: the abandoned command's elements are free values (`abandonedCw`), by R382's table. -/
theorem softResetAbandonsCommand : Obligations.SoftResetAbandonsCommand := by
  intro s d hpending hsrst
  rw [hostTransfer_write_ctrl, writeCtrl_of_srst hsrst, softReset_pending hpending]
  refine ⟨abandonedCw s, rfl, fun k => ?_⟩
  rw [Fin.getElem_fin, abandonedCw, getElem_tabulate]
  simp only [wordCouldWriteCw_iff]

end Sys2Proof.Machine
end

section
/-! The field GF(256) (R141, R142, R160): the tables as doubling and its inverse, multiplication as associative and
distributive, the results of the GF commands, and the obligations about them. -/

namespace Sys2Proof.Machine

open Sys2Proof Sys2Proof.Claims

/-- Settles O6: EXP is iterated doubling (`getElem_expTable`), of period 255, and LOG finds its entries (`logOf_expMod`,
`exists_logOf`). -/
theorem expAndLogTables : Obligations.ExpAndLogTables := by
  refine ⟨getElem_expTable 0 (by decide), fun i h => ?double, (getElem_expTable 255 (by decide)).trans
    isPeriodicPt_double_one, fun i h => ?log, fun x hx => ?inverse, logOf_zero⟩
  case double => rw [getElem_expTable, getElem_expTable, Function.iterate_succ_apply']
  case log =>
    have hentry : expTable[i] = expMod i := expAt_eq_expMod i (by omega)
    rw [hentry, logOf_expMod, Nat.mod_eq_of_lt h]
  case inverse =>
    obtain ⟨a, ha⟩ := exists_logOf hx
    have hlt := logOf_lt ha
    exact ⟨a, hlt, ha, (expAt_eq_expMod a (by omega)).trans (expMod_of_logOf ha)⟩

/-- Settles O9: the product by LOG and EXP is the schoolbook one (`gfMul_eq_schoolMul`). -/
theorem gfMulIsPolynomialProduct : Obligations.GfMulIsPolynomialProduct := by
  intro x y s
  rw [exec_gfMul, gfMul_eq_schoolMul]

/-! ### The ring laws of multiplication (R160) -/

theorem iterate_double_xor (n : Nat) (x y : Byte) : double^[n] (x ^^^ y) = double^[n] x ^^^ double^[n] y := by
  induction n generalizing x y with
  | zero => rfl
  | succ n ih => simp only [Function.iterate_succ_apply, double_xor, ih]

/-- Multiplication by α^a is `a` doublings. -/
theorem gfMul_of_logOf {x : Byte} {a : Nat} (h : logOf x = some a) (y : Byte) : gfMul x y = double^[a] y := by
  rw [gfMul_eq_schoolMul, ← iterate_double_of_logOf h, schoolMul_iterate_double]

theorem gfMul_double_left (x y : Byte) : gfMul (double x) y = double (gfMul x y) := by
  rw [gfMul_eq_schoolMul, gfMul_eq_schoolMul, schoolMul_double_left]

theorem gfMul_iterate_double_left (n : Nat) (x y : Byte) : gfMul (double^[n] x) y = double^[n] (gfMul x y) :=
  (Function.Semiconj.iterate_right (f := (gfMul · y)) (gfMul_double_left · y) n) x

theorem gfMul_assoc (x y z : Byte) : gfMul (gfMul x y) z = gfMul x (gfMul y z) := by
  by_cases hx : x = 0#8
  · simp [hx]
  · obtain ⟨a, ha⟩ := exists_logOf hx
    rw [gfMul_of_logOf ha, gfMul_of_logOf ha, gfMul_iterate_double_left]

theorem gfMul_xor_right (x y z : Byte) : gfMul x (y ^^^ z) = gfMul x y ^^^ gfMul x z := by
  by_cases hx : x = 0#8
  · simp [hx]
  · obtain ⟨a, ha⟩ := exists_logOf hx
    simp only [gfMul_of_logOf ha, iterate_double_xor]

theorem gfMul_xor_left (x y z : Byte) : gfMul (x ^^^ y) z = gfMul x z ^^^ gfMul y z := by
  simp only [gfMul_comm _ z, gfMul_xor_right]

theorem gfMul_expMod (j k : Nat) : gfMul (expMod j) (expMod k) = expMod (j + k) := by
  rw [gfMul_of_logs (logOf_expMod j) (logOf_expMod k), expMod_congr (Nat.add_mod j k 255).symm]

/-! ### Inverses, quotients and powers (R160) -/

section
variable {x y r : Byte}

theorem gfMul_gfInv (h : gfInv x = some r) : gfMul x r = 1#8 := by
  by_cases hx : x = 0#8
  · simp [hx] at h
  · obtain ⟨a, ha⟩ := exists_logOf hx
    have hlt := logOf_lt ha
    obtain rfl := Option.some.inj ((gfInv_eq_expMod ha).symm.trans h)
    rw [← expMod_of_logOf ha, gfMul_expMod, expMod_congr (show (a + (255 - a)) % 255 = 0 % 255 by omega), expMod_zero]

theorem exists_gfInv (hx : x ≠ 0#8) : ∃ r, gfInv x = some r := by
  obtain ⟨a, ha⟩ := exists_logOf hx
  exact ⟨_, gfInv_eq_expMod ha⟩

/-- Division is multiplication by the inverse. -/
theorem gfDiv_eq_gfMul (x : Byte) (h : gfInv y = some r) : gfDiv x y = some (gfMul x r) := by
  by_cases hy : y = 0#8
  · simp [hy] at h
  obtain ⟨b, hb⟩ := exists_logOf hy
  have hlt := logOf_lt hb
  obtain rfl := Option.some.inj ((gfInv_eq_expMod hb).symm.trans h)
  by_cases hx : x = 0#8
  · rw [hx, gfDiv_zero_left hy, gfMul_zero_left]
  · obtain ⟨a, ha⟩ := exists_logOf hx
    rw [gfDiv_of_logs ha hb]
    conv_rhs => rw [← expMod_of_logOf ha, gfMul_expMod]
    rw [Nat.add_sub_assoc hlt.le]

/-- A power times its base is the next power, while the exponent does not wrap. -/
theorem gfPow_add_one {a : Nat} (h : logOf x = some a) {e : Byte} (he : e ≠ 255#8) :
    gfPow x (e + 1#8) = some (gfMul (expMod (a * e.toNat)) x) := by
  have hnext : (e + 1#8).toNat = e.toNat + 1 := by
    have hne : e.toNat ≠ 255 := fun heq => he (BitVec.eq_of_toNat_eq heq)
    bv_omega
  rw [gfPow_of_logOf h, hnext]
  conv_rhs => rw [← expMod_of_logOf h, gfMul_expMod]
  rw [Nat.mul_succ]

end

/-! ### The results of the commands -/

section
variable {s : State} (h : s.err = false)
include h

theorem gfResult_of_perform {i : Instr} {v : Byte} (hi : perform i s = .ok (setResult v s)) :
    gfResult i s = some v := by
  rw [gfResult, exec_eq_finish, hi]
  simp [h]

theorem gfResult_add (x y : Byte) : gfResult (.gfAdd x y) s = some (x ^^^ y) := gfResult_of_perform h rfl

theorem gfResult_sub (x y : Byte) : gfResult (.gfSub x y) s = some (x ^^^ y) := gfResult_of_perform h rfl

theorem gfResult_mul (x y : Byte) : gfResult (.gfMul x y) s = some (gfMul x y) := gfResult_of_perform h rfl

theorem gfResult_of_performGf {i : Instr} {e : ErrKind} {r : Option Byte} {v : Byte}
    (hi : perform i s = performGf e r s) (hr : r = some v) : gfResult i s = some v :=
  gfResult_of_perform h (hi.trans (by rw [hr, performGf]))

theorem gfResult_div {x y r : Byte} (hr : gfDiv x y = some r) : gfResult (.gfDiv x y) s = some r :=
  gfResult_of_performGf h rfl hr

theorem gfResult_inv {x r : Byte} (hr : gfInv x = some r) : gfResult (.gfInv x) s = some r :=
  gfResult_of_performGf h rfl hr

theorem gfResult_pow {x e r : Byte} (hr : gfPow x e = some r) : gfResult (.gfPow x e) s = some r :=
  gfResult_of_performGf h rfl hr

end

/-- Settles O14: each law is one of the operations, which the commands compute on a cleared record. -/
theorem fieldLaws : Obligations.FieldLaws := by
  intro s h
  refine ⟨fun x hx => ?inverse, fun x y => ⟨?mulComm, ?addComm⟩, fun x hx => ⟨?self, ?zero⟩, fun x y => ?sub,
    fun x y z => ?assoc, fun x y z => ?distrib, fun x y hy => ?div,
    fun x hx => ⟨?powZero, ?powPeriod, fun e he => ?powSucc⟩⟩
  case inverse =>
    obtain ⟨r, hr⟩ := exists_gfInv hx
    exact ⟨r, gfResult_inv h hr, (gfResult_mul h x r).trans (congrArg some (gfMul_gfInv hr))⟩
  case mulComm => rw [gfResult_mul h, gfResult_mul h, gfMul_comm]
  case addComm => rw [gfResult_add h, gfResult_add h, BitVec.xor_comm]
  case self => exact gfResult_div h (gfDiv_self hx)
  case zero => exact gfResult_div h (gfDiv_zero_left hx)
  case sub => rw [gfResult_add h, gfResult_sub h]
  case assoc => exact ⟨_, _, _, gfResult_mul h x y, gfResult_mul h y z, gfResult_mul h _ z,
      (gfResult_mul h x _).trans (congrArg some (gfMul_assoc x y z).symm)⟩
  case distrib => exact ⟨_, _, _, gfResult_mul h x y, gfResult_mul h x z, gfResult_mul h x _,
      (gfResult_add h _ _).trans (congrArg some (gfMul_xor_right x y z).symm)⟩
  case div =>
    obtain ⟨v, hv⟩ := exists_gfInv hy
    exact ⟨v, gfResult_inv h hv, (gfResult_div h (gfDiv_eq_gfMul x hv)).trans (gfResult_mul h x v).symm⟩
  case' powZero | powPeriod | powSucc => obtain ⟨a, ha⟩ := exists_logOf hx
  case powZero => exact gfResult_pow h (gfPow_eq_one ha (by simp))
  case powPeriod => exact gfResult_pow h (gfPow_eq_one ha (Nat.dvd_mul_left 255 a))
  case powSucc => exact ⟨_, gfResult_pow h (gfPow_of_logOf ha e),
      (gfResult_pow h (gfPow_add_one ha he)).trans (gfResult_mul h _ x).symm⟩

end Sys2Proof.Machine
end

section
/-! Reed–Solomon (R180 to R186): scaled addition of polynomials, their values at the powers of α, long division as a
sequence of scaled additions, the encoded message as a multiple of GEN, and the obligations about them. -/

namespace Sys2Proof.Machine

open Sys2Proof Sys2Proof.Claims

/-! ### Scaled addition (R180) -/

section
variable (p q : List Byte) (k : Nat) (c d : Byte)

@[simp] theorem length_xorScaled : (xorScaled p k q c).length = p.length := by
  fun_induction xorScaled p k q c with
  | case1 => rfl
  | case2 => rfl
  | case3 a p b q ih => simp [ih]
  | case4 k a p q ih => simp [ih]

theorem xorScaled_zero_scalar : xorScaled p k q 0#8 = p := by
  fun_induction xorScaled p k q 0#8 with
  | case1 => rfl
  | case2 => rfl
  | case3 a p b q ih => simp [ih, gfAdd]
  | case4 k a p q ih => simp [ih]

theorem getD_xorScaled_of_lt {i : Nat} (h : i < k) : (xorScaled p k q c).getD i 0#8 = p.getD i 0#8 := by
  induction k generalizing p i with
  | zero => exact absurd h (Nat.not_lt_zero i)
  | succ k ih =>
    cases p with
    | nil => rfl
    | cons a p =>
      cases i with
      | zero => rfl
      | succ i => simpa [xorScaled] using ih p (Nat.lt_of_succ_lt_succ h)

/-- Adding a monic divisor scaled by an entry, aligned there, clears the entry. -/
theorem getD_xorScaled_self : (xorScaled p k (1#8 :: q) (p.getD k 0#8)).getD k 0#8 = 0#8 := by
  induction k generalizing p with
  | zero => cases p <;> simp [xorScaled, gfAdd, gfMul_one_left]
  | succ k ih =>
    cases p with
    | nil => rfl
    | cons a p => simpa [xorScaled] using ih p

/-- Scaled addition is linear in the polynomial it adds to and in the scalar. -/
theorem xorScaled_zipWith (p' : List Byte) (hlength : p.length = p'.length) :
    xorScaled (List.zipWith (· ^^^ ·) p p') k q (c ^^^ d) =
      List.zipWith (· ^^^ ·) (xorScaled p k q c) (xorScaled p' k q d) := by
  induction p generalizing p' k q with
  | nil => simp [xorScaled]
  | cons a p ih =>
    obtain ⟨a', p', rfl⟩ := List.exists_cons_of_length_eq_add_one hlength.symm
    have hrest : p.length = p'.length := by simpa using hlength
    cases k with
    | succ k => simp [xorScaled, ih _ _ _ hrest]
    | zero =>
      cases q with
      | nil => simp [xorScaled]
      | cons b q =>
        simp only [xorScaled, List.zipWith_cons_cons, ih _ _ _ hrest, gfAdd, gfMul_xor_right]
        congr 1
        ac_rfl

end

/-! ### Values of a polynomial at the powers of α (R186) -/

/-- The value at α^j of the polynomial with these coefficients, the most significant first. -/
def valueAtPower (j : Nat) : List Byte → Byte
  | [] => 0#8
  | c :: l => gfMul c (expMod (j * l.length)) ^^^ valueAtPower j l

section
variable (j : Nat)

/-- Horner's rule from a start value. -/
theorem foldl_horner (l : List Byte) (s : Byte) :
    l.foldl (fun s c => gfAdd (gfMul s (expMod j)) c) s =
      gfMul s (expMod (j * l.length)) ^^^ valueAtPower j l := by
  induction l generalizing s with
  | nil => simp [valueAtPower, expMod_zero, gfMul_one_right]
  | cons c l ih =>
    have hpower : gfMul (expMod j) (expMod (j * l.length)) = expMod (j * (l.length + 1)) := by
      rw [gfMul_expMod, Nat.mul_succ, Nat.add_comm]
    rw [List.foldl_cons, ih, gfAdd, gfMul_xor_left, gfMul_assoc, hpower, BitVec.xor_assoc]
    rfl

theorem syndrome_eq_valueAtPower (cw : Vector Byte 26) : syndrome cw j = valueAtPower j cw.toList := by
  rw [syndrome, foldl_horner, gfMul_zero_left, BitVec.zero_xor]

theorem valueAtPower_append (l r : List Byte) :
    valueAtPower j (l ++ r) = gfMul (valueAtPower j l) (expMod (j * r.length)) ^^^ valueAtPower j r := by
  have hfold := foldl_horner j (l ++ r) 0#8
  rw [List.foldl_append, foldl_horner, foldl_horner] at hfold
  simpa using hfold.symm

theorem valueAtPower_replicate_zero (n : Nat) : valueAtPower j (List.replicate n 0#8) = 0#8 := by
  induction n with
  | zero => rfl
  | succ n ih => simp [List.replicate_succ, valueAtPower, ih]

theorem xorSum_cons (a : Byte) (l : List Byte) : xorSum (a :: l) = a ^^^ xorSum l := by
  rw [xorSum, List.foldl_cons, BitVec.xor_comm 0#8 a]
  exact List.foldl_assoc

/-- The value as the sum of the coefficients times their powers. -/
theorem valueAtPower_eq_xorSum (l : List Byte) : valueAtPower j l =
    xorSum ((List.range l.length).map fun i => gfMul (l.getD i 0#8) (expMod (j * (l.length - 1 - i)))) := by
  induction l with
  | nil => rfl
  | cons c l ih =>
    rw [valueAtPower, ih, List.length_cons, List.range_succ_eq_map, List.map_cons, xorSum_cons, List.map_map]
    refine congrArg (_ ^^^ xorSum ·) (List.map_congr_left fun i _ => ?_)
    simp only [Function.comp_apply, Nat.succ_eq_add_one, List.getD_cons_succ, Nat.add_sub_cancel]
    rw [Nat.sub_sub, Nat.add_comm 1]

theorem powerSum_eq_valueAtPower (cw : Vector Byte 26) : powerSum cw j = valueAtPower j cw.toList := by
  rw [valueAtPower_eq_xorSum, Vector.length_toList]
  rfl

theorem valueAtPower_zero (l : List Byte) : valueAtPower 0 l = xorSum l := by
  induction l with
  | nil => rfl
  | cons c l ih => rw [valueAtPower, Nat.zero_mul, expMod_zero, gfMul_one_right, ih, xorSum_cons]

theorem valueAtPower_set (l : List Byte) (i : Nat) (h : i < l.length) (e : Byte) :
    valueAtPower j (l.set i (l[i] ^^^ e)) = valueAtPower j l ^^^ gfMul e (expMod (j * (l.length - 1 - i))) := by
  induction l generalizing i with
  | nil => exact absurd h (Nat.not_lt_zero i)
  | cons c l ih =>
    cases i with
    | zero =>
      simp only [List.set_cons_zero, List.getElem_cons_zero, valueAtPower, gfMul_xor_left, List.length_cons,
        Nat.add_sub_cancel, Nat.sub_zero]
      ac_rfl
    | succ i =>
      have hindex : l.length - (i + 1) = l.length - 1 - i := by omega
      simp only [List.set_cons_succ, List.getElem_cons_succ, valueAtPower, List.length_set, List.length_cons,
        Nat.add_sub_cancel, hindex, ih i (Nat.lt_of_succ_lt_succ h), BitVec.xor_assoc]

/-- A scaled addition adds the scaled value of the divisor, shifted to the position it is aligned at. -/
theorem valueAtPower_xorScaled (p q : List Byte) (k : Nat) (c : Byte) (h : k + q.length ≤ p.length) :
    valueAtPower j (xorScaled p k q c) = valueAtPower j p ^^^
      gfMul (gfMul c (valueAtPower j q)) (expMod (j * (p.length - k - q.length))) := by
  fun_induction xorScaled p k q c with
  | case1 k q =>
    obtain ⟨-, rfl⟩ : k = 0 ∧ q = [] := by simpa using h
    simp [valueAtPower]
  | case2 => simp [valueAtPower]
  | case3 a p b q ih =>
    have hle : q.length ≤ p.length := by simpa using h
    have hpower : j * q.length + j * (p.length - q.length) = j * p.length := by
      rw [← Nat.mul_add, Nat.add_sub_cancel' hle]
    simp only [valueAtPower, length_xorScaled, ih (by simpa using h), gfAdd, gfMul_xor_left, gfMul_xor_right,
      List.length_cons, Nat.sub_zero, Nat.add_sub_add_right, gfMul_assoc, gfMul_expMod, hpower]
    rw [← gfMul_assoc b c, gfMul_comm b c, gfMul_assoc]
    ac_rfl
  | case4 k a p q ih =>
    simp only [List.length_cons] at h
    have hindex : p.length + 1 - (k + 1) - q.length = p.length - k - q.length := by omega
    simp only [valueAtPower, length_xorScaled, ih (by omega), List.length_cons, hindex, BitVec.xor_assoc]

end

/-! ### Long division (R183) -/

/-- `n` steps of the division of `d` by `g`: step `i` clears entry `i`. -/
def divisionSteps (g d : List Byte) (n : Nat) : List Byte :=
  (List.range n).foldl (fun buf i => xorScaled buf i g (buf.getD i 0#8)) d

section
variable (g d : List Byte) (n : Nat)

theorem divisionSteps_succ : divisionSteps g d (n + 1) =
    xorScaled (divisionSteps g d n) n g ((divisionSteps g d n).getD n 0#8) := by
  simp [divisionSteps, List.range_succ]

/-- A step at a zero entry adds nothing, so the division's test for it makes no difference. -/
theorem polyDivide_eq_drop : polyDivide d g =
    (divisionSteps g d (d.length + 1 - g.length)).drop (d.length + 1 - g.length) := by
  have hstep (buf : List Byte) (i : Nat) :
      (if buf.getD i 0#8 = 0#8 then buf else xorScaled buf i g (buf.getD i 0#8)) =
        xorScaled buf i g (buf.getD i 0#8) := by
    split
    next hzero => rw [hzero, xorScaled_zero_scalar]
    next => rfl
  simp only [polyDivide, divisionSteps, hstep]

@[simp] theorem length_divisionSteps : (divisionSteps g d n).length = d.length := by
  induction n with
  | zero => rfl
  | succ n ih => rw [divisionSteps_succ, length_xorScaled, ih]

theorem length_polyDivide : (polyDivide d g).length = d.length - (d.length + 1 - g.length) := by
  rw [polyDivide_eq_drop, List.length_drop, length_divisionSteps]

theorem divisionSteps_zipWith (d' : List Byte) (hlength : d.length = d'.length) :
    divisionSteps g (List.zipWith (· ^^^ ·) d d') n =
      List.zipWith (· ^^^ ·) (divisionSteps g d n) (divisionSteps g d' n) := by
  have hentry (l l' : List Byte) (i : Nat) (h : l.length = l'.length) :
      (List.zipWith (· ^^^ ·) l l').getD i 0#8 = l.getD i 0#8 ^^^ l'.getD i 0#8 := by
    by_cases hi : i < l.length
    · have hi' : i < l'.length := h ▸ hi
      simp [hi, hi']
    · have hi' : ¬ i < l'.length := h ▸ hi
      rw [List.getD_eq_default _ _ (Nat.le_of_not_lt hi), List.getD_eq_default _ _ (Nat.le_of_not_lt hi'),
        List.getD_eq_default _ _ (by rw [List.length_zipWith]; omega)]
      rfl
  induction n with
  | zero => rfl
  | succ n ih =>
    have hsteps : (divisionSteps g d n).length = (divisionSteps g d' n).length := by simpa using hlength
    rw [divisionSteps_succ, divisionSteps_succ, divisionSteps_succ, ih, hentry _ _ _ hsteps,
      xorScaled_zipWith _ _ _ _ _ _ hsteps]

/-- Division is linear in the dividend. -/
theorem polyDivide_zipWith (d' : List Byte) (hlength : d.length = d'.length) :
    polyDivide (List.zipWith (· ^^^ ·) d d') g =
      List.zipWith (· ^^^ ·) (polyDivide d g) (polyDivide d' g) := by
  simp only [polyDivide_eq_drop, divisionSteps_zipWith g d _ d' hlength, List.drop_zipWith, List.length_zipWith,
    hlength, Nat.min_self]

/-- By a monic divisor, `n` steps clear the first `n` entries. -/
theorem getD_divisionSteps {q : List Byte} {i : Nat} (h : i < n) :
    (divisionSteps (1#8 :: q) d n).getD i 0#8 = 0#8 := by
  induction n with
  | zero => exact absurd h (Nat.not_lt_zero i)
  | succ n ih =>
    rw [divisionSteps_succ]
    obtain hlt | rfl := Nat.lt_succ_iff_lt_or_eq.1 h
    · rw [getD_xorScaled_of_lt _ _ _ _ hlt, ih hlt]
    · exact getD_xorScaled_self _ _ _

/-- Division keeps the value wherever the divisor is 0. -/
theorem valueAtPower_divisionSteps {j : Nat} (hroot : valueAtPower j g = 0#8) (h : n + g.length ≤ d.length + 1) :
    valueAtPower j (divisionSteps g d n) = valueAtPower j d := by
  induction n with
  | zero => rfl
  | succ n ih =>
    rw [divisionSteps_succ, valueAtPower_xorScaled _ _ _ _ _ (by rw [length_divisionSteps]; omega), hroot,
      ih (by omega), gfMul_zero_right, gfMul_zero_left, BitVec.xor_zero]

/-- The remainder by a monic divisor has the dividend's value at the divisor's roots. -/
theorem valueAtPower_polyDivide {j : Nat} {q : List Byte} (hroot : valueAtPower j (1#8 :: q) = 0#8)
    (h : q.length ≤ d.length) : valueAtPower j (polyDivide d (1#8 :: q)) = valueAtPower j d := by
  have hsteps : d.length + 1 - (1#8 :: q).length = d.length - q.length := by simp
  rw [polyDivide_eq_drop, hsteps]
  have hzero : (divisionSteps (1#8 :: q) d (d.length - q.length)).take (d.length - q.length) =
      List.replicate (d.length - q.length) 0#8 := by
    refine List.ext_getElem (by simp) fun i hi _ => ?_
    have hi : i < d.length - q.length := by simp at hi; omega
    have hentry := getD_divisionSteps d _ (q := q) hi
    rw [List.getD_eq_getElem _ _ (by simp; omega)] at hentry
    simpa using hentry
  have hvalue := valueAtPower_divisionSteps _ d (d.length - q.length) hroot (by simp; omega)
  rw [← List.take_append_drop (d.length - q.length) (divisionSteps _ d _), hzero, valueAtPower_append,
    valueAtPower_replicate_zero, gfMul_zero_left, BitVec.zero_xor] at hvalue
  exact hvalue

end

/-! ### The EC codewords (R182, R184) -/

section
variable (cw : Vector Byte 26)

theorem length_dataCodewords : (dataCodewords cw).length = 19 := by simp [dataCodewords]

theorem length_ecCodewords {msg : List Byte} (h : msg.length = 19) : (ecCodewords msg).length = 7 := by
  rw [ecCodewords, length_polyDivide]
  simp [h]

theorem toList_withEc : (withEc cw).toList = dataCodewords cw ++ ecCodewords (dataCodewords cw) := by
  have hec := length_ecCodewords (length_dataCodewords cw)
  refine List.ext_getElem (by simp [hec, length_dataCodewords]) fun k hk hk' => ?_
  have hk : k < 26 := by simpa using hk
  simp only [Vector.getElem_toList, withEc, getElem_tabulate]
  by_cases hdata : k < 19
  · rw [if_pos hdata, List.getElem_append_left (by rwa [length_dataCodewords])]
    simp [dataCodewords]
  · have hindex : k - 19 < (ecCodewords (dataCodewords cw)).length := by omega
    rw [if_neg hdata, List.getElem_append_right (by rw [length_dataCodewords]; omega)]
    simp only [length_dataCodewords]
    exact List.getD_eq_getElem _ _ hindex

/-- α^0 to α^6 are the roots of GEN (R181, R182). -/
theorem valueAtPower_genRom : ∀ j : Fin 7, valueAtPower j genRom.toList = 0#8 := by decide +kernel

/-- An encoded message has syndromes 0 (R185.4). -/
theorem syndrome_withEc (j : Fin 7) : syndrome (withEc cw) j = 0#8 := by
  have hec := length_ecCodewords (length_dataCodewords cw)
  have hvalue : valueAtPower j (ecCodewords (dataCodewords cw)) =
      valueAtPower j (dataCodewords cw ++ List.replicate 7 0#8) :=
    valueAtPower_polyDivide _ (valueAtPower_genRom j) (by simp [length_dataCodewords])
  rw [syndrome_eq_valueAtPower, toList_withEc, valueAtPower_append, hvalue, valueAtPower_append, hec,
    valueAtPower_replicate_zero, List.length_replicate, BitVec.xor_zero, BitVec.xor_self]

theorem withEc_zipWith (cw' : Vector Byte 26) :
    withEc (Vector.zipWith (· ^^^ ·) cw cw') = Vector.zipWith (· ^^^ ·) (withEc cw) (withEc cw') := by
  have hdata : dataCodewords (Vector.zipWith (· ^^^ ·) cw cw') =
      List.zipWith (· ^^^ ·) (dataCodewords cw) (dataCodewords cw') := by
    simp [dataCodewords, List.take_zipWith]
  have hlength : (dataCodewords cw).length = (dataCodewords cw').length := by simp only [length_dataCodewords]
  have hec : ecCodewords (List.zipWith (· ^^^ ·) (dataCodewords cw) (dataCodewords cw')) =
      List.zipWith (· ^^^ ·) (ecCodewords (dataCodewords cw)) (ecCodewords (dataCodewords cw')) := by
    rw [ecCodewords, ecCodewords, ecCodewords, ← polyDivide_zipWith _ _ _ (by simp [hlength]),
      List.zipWith_append hlength]
    rfl
  apply Vector.toList_inj.1
  rw [toList_withEc, Vector.toList_zipWith, toList_withEc, toList_withEc, List.zipWith_append hlength, hdata, hec]

/-- An error `e` in codeword `i` adds its term to each syndrome (R185, R186). -/
theorem syndrome_set (i : Fin 26) (e : Byte) (j : Nat) :
    syndrome (cw.set i (cw[i] ^^^ e)) j = syndrome cw j ^^^ gfMul e (expMod (j * (25 - i.val))) := by
  have hi : i.val < cw.toList.length := by simp
  have hvalue := valueAtPower_set j cw.toList i hi e
  rw [Vector.length_toList, Vector.getElem_toList] at hvalue
  rw [syndrome_eq_valueAtPower, syndrome_eq_valueAtPower, Vector.toList_set]
  exact hvalue

end

/-! ### Generator polynomials (R181) -/

theorem length_polyMul (p q : List Byte) : (polyMul p q).length = p.length + q.length - 1 := by
  have hfold (is : List Nat) (r : List Byte) :
      (is.foldl (fun r i => xorScaled r i q (p.getD i 0#8)) r).length = r.length := by
    induction is generalizing r with
    | nil => rfl
    | cons i is ih => rw [List.foldl_cons, ih, length_xorScaled]
  rw [polyMul, hfold, List.length_replicate]

/-- The product of two monic polynomials is monic: only the first summand reaches the leading coefficient. -/
theorem head?_polyMul (p q : List Byte) : (polyMul (1#8 :: p) (1#8 :: q)).head? = some 1#8 := by
  have hhead (r : List Byte) (i : Nat) (c : Byte) : (xorScaled r (i + 1) (1#8 :: q) c).head? = r.head? := by
    cases r <;> rfl
  have hfold (is : List Nat) (r : List Byte) :
      (is.foldl (fun r i => xorScaled r (i + 1) (1#8 :: q) (p.getD i 0#8)) r).head? = r.head? := by
    induction is generalizing r with
    | nil => rfl
    | cons i is ih => rw [List.foldl_cons, ih, hhead]
  simp only [polyMul, List.length_cons, List.range_succ_eq_map, List.foldl_cons, List.foldl_map, List.getD_cons_zero,
    List.getD_cons_succ]
  rw [hfold, show p.length + 1 + (q.length + 1) - 1 = p.length + q.length + 1 by omega, List.replicate_succ]
  simp [xorScaled, gfAdd, gfMul_one_left]

theorem generatorPolynomial_succ (n : Nat) :
    generatorPolynomial (n + 1) = polyMul (generatorPolynomial n) [1#8, expMod n] := by
  simp [generatorPolynomial, List.range_succ]

theorem generatorPolynomial_monic (n : Nat) :
    (generatorPolynomial n).length = n + 1 ∧ (generatorPolynomial n).head? = some 1#8 := by
  induction n with
  | zero => exact ⟨rfl, rfl⟩
  | succ n ih =>
    obtain ⟨hlength, hhead⟩ := ih
    obtain ⟨p, hp⟩ := List.head?_eq_some_iff.1 hhead
    rw [generatorPolynomial_succ]
    refine ⟨by simp [length_polyMul, hlength], ?_⟩
    rw [hp]
    exact head?_polyMul p _

/-! ### The obligations -/

/-- Settles O16: a product of monic polynomials is monic (`generatorPolynomial_monic`), and the one of degree 7 is
evaluated. -/
theorem generatorPolynomials : Obligations.GeneratorPolynomials :=
  ⟨generatorPolynomial_monic, by decide +kernel, rfl⟩

/-- Settles O17: CW_BUF becomes the message and its EC codewords (`toList_withEc`). -/
theorem rsEncodeWritesRemainder : Obligations.RsEncodeWritesRemainder := by
  intro s
  refine ⟨withEc s.cwBuf, rfl, fun k hk => ?data, ?ec⟩
  case data => simp [withEc, hk]
  case ec =>
    rw [toList_withEc, List.drop_left' (length_dataCodewords _)]
    rfl

/-- Settles O18: division is linear in the dividend (`polyDivide_zipWith`). -/
theorem rsEncodeIsLinear : Obligations.RsEncodeIsLinear := by
  intro a b k
  rw [withEc_zipWith, Fin.getElem_fin, Vector.getElem_zipWith]
  rfl

/-- Settles O19: Horner's rule and the power sum are both the polynomial's value at α^j. -/
theorem rsSyndromeIsPowerSum : Obligations.RsSyndromeIsPowerSum := by
  intro s
  have hvalue (j : Nat) : syndrome s.cwBuf j = powerSum s.cwBuf j := by
    rw [syndrome_eq_valueAtPower, powerSum_eq_valueAtPower]
  refine ⟨tabulate fun j => syndrome s.cwBuf j, rfl, fun j => ?_, ?_⟩
  · rw [Fin.getElem_fin, getElem_tabulate, hvalue]
  · rw [getElem_tabulate, syndrome_eq_valueAtPower, valueAtPower_zero]

/-- Settles O20: the syndromes of an encoded message are 0 (`syndrome_withEc`), and an error adds its term of the power
sum (`valueAtPower_set`). -/
theorem syndromesLocateSingleError : Obligations.SyndromesLocateSingleError := by
  intro s t i e ht
  obtain rfl := Host.Outcome.next.inj ((exec_rsEncode s).symm.trans ht)
  refine ⟨_, rfl, fun j => ?_⟩
  have hentry := syndrome_set (withEc s.cwBuf) i e j
  rw [syndrome_withEc, BitVec.zero_xor] at hentry
  exact (getElem_tabulate _ j.val j.isLt).trans hentry

end Sys2Proof.Machine
end

section
/-! Bit strings (R12, R41): `bin` read back as a number and as a byte, the codewords cut from a stream, the padding of
R218, and the obligations about them. -/

namespace Sys2Proof.Machine

open Sys2Proof Sys2Proof.Claims

/-! ### Bit strings as numbers (R12) -/

/-- The bits of `v` below `w`, weighted, are `v` modulo 2^w. -/
theorem sumTo_testBit (w v : Nat) :
    (sumTo w fun k => if v.testBit (w - 1 - k) then 2 ^ (w - 1 - k) else 0) = v % 2 ^ w := by
  induction w with
  | zero => simp [sumTo, Nat.mod_one]
  | succ w ih =>
    rw [sumTo_succ_left, Nat.mod_pow_succ, ← ih, ← Nat.toNat_testBit, Nat.add_comm]
    refine congrArg₂ (· + ·) (sumTo_congr fun k _ => ?_) ?_
    · rw [Nat.add_sub_cancel, Nat.sub_sub, Nat.add_comm 1]
    · cases h : v.testBit w <;> simp [h]

theorem getD_bin {w k : Nat} (v : Nat) (hk : k < w) : (bin w v).getD k false = v.testBit (w - 1 - k) := by
  simp [bin, hk]

/-- A number packed into a stream is read back at its position. -/
theorem numberAt_append_bin (pre post : List Bool) (w v : Nat) :
    numberAt (pre ++ (bin w v ++ post)) pre.length w = v % 2 ^ w := by
  rw [← sumTo_testBit w v, numberAt]
  refine sumTo_congr fun k hk => ?_
  rw [List.getD_append_right _ _ _ _ (Nat.le_add_right _ _), Nat.add_sub_cancel_left,
    List.getD_append _ _ _ _ (by simpa using hk), getD_bin v hk]

theorem bin_succ_of_low_bit (w v : Nat) (b : Bool) : bin (w + 1) (2 * v + b.toNat) = bin w v ++ [b] := by
  have hhigh (k : Nat) : (2 * v + b.toNat).testBit (k + 1) = v.testBit k := by
    rw [Nat.testBit_succ]
    cases b
    · simp
    · rw [Bool.toNat_true, show (2 * v + 1) / 2 = v by omega]
  have hlow : (2 * v + b.toNat).testBit 0 = b := by
    cases b <;> simp [Nat.testBit_zero, Nat.add_mod]
  rw [bin, List.range_succ, List.map_append, List.map_singleton, Nat.add_sub_cancel, Nat.sub_self, hlow, bin]
  congr 1
  refine List.map_congr_left fun k hk => ?_
  have hk := List.mem_range.1 hk
  rw [show w - k = (w - 1 - k) + 1 by omega, hhigh]

theorem bitsValue_append_singleton (bs : List Bool) (b : Bool) :
    bitsValue (bs ++ [b]) = 2 * bitsValue bs + b.toNat := by
  simp [bitsValue]

theorem bin_bitsValue (bs : List Bool) : bin bs.length (bitsValue bs) = bs := by
  induction bs using List.reverseRecOn with
  | nil => rfl
  | append_singleton bs b ih =>
    rw [List.length_append, List.length_singleton, bitsValue_append_singleton, bin_succ_of_low_bit, ih]

theorem bitsValue_lt (bs : List Bool) : bitsValue bs < 2 ^ bs.length := by
  induction bs using List.reverseRecOn with
  | nil => decide
  | append_singleton bs b ih =>
    rw [List.length_append, List.length_singleton, bitsValue_append_singleton, Nat.pow_succ]
    have := Bool.toNat_le b
    omega

/-- A byte cut from a stream shows the stream's bits, the first as its bit 7 (R12, R220). -/
theorem getMsbD_byteOfBits (bs : List Bool) (b i : Nat) (hi : i < 8) (h : 8 * b + 8 ≤ bs.length) :
    (byteOfBits bs b).getMsbD i = bs.getD (8 * b + i) false := by
  have hlength : ((bs.drop (8 * b)).take 8).length = 8 := by simp; omega
  have hlt := bitsValue_lt ((bs.drop (8 * b)).take 8)
  have hbin := bin_bitsValue ((bs.drop (8 * b)).take 8)
  rw [hlength] at hlt hbin
  rw [← getD_bin_toNat, byteOfBits, BitVec.toNat_ofNat, Nat.mod_eq_of_lt hlt, hbin]
  simp [List.getD_eq_getElem?_getD, hi]

/-! ### The codewords as a stream (R41) -/

theorem length_codewordBits (cw : Vector Byte 26) : (codewordBits cw).length = 208 := by
  simp [codewordBits, List.length_flatMap]

/-- Two ways to read the codewords' bits, each from bit 7 down. -/
theorem codewordBits_eq_bitList (cw : Vector Byte 26) : codewordBits cw = bitList cw := by
  refine List.ext_getElem (by simp [length_codewordBits, bitList]) fun k hk _ => ?_
  rw [← List.getD_eq_getElem (d := false), getD_codewordBits, streamBit]
  have hbit : k % 8 < 8 := Nat.mod_lt k (by decide)
  simp [bitList, BitVec.getMsbD, hbit]

/-- The data codewords of COMPOSE hold the padded stream (R219, R220). -/
theorem take_codewordBits_withData {bits : List Bool} (h : bits.length = 152) (cw : Vector Byte 26) :
    (codewordBits (withData bits cw)).take 152 = bits := by
  refine List.ext_getElem (by simp [length_codewordBits, h]) fun k hk hk' => ?_
  have hlt : k < 152 := by omega
  have hword : k / 8 < 26 := by omega
  have hdata : k / 8 < 19 := by omega
  rw [List.getElem_take, ← List.getD_eq_getElem (d := false), getD_codewordBits, streamBit,
    List.getD_eq_getElem _ _ (by simpa using hword), Vector.getElem_toList, withData, getElem_tabulate, if_pos hdata,
    getMsbD_byteOfBits bits (k / 8) _ (Nat.mod_lt k (by decide)) (by omega), Nat.div_add_mod, List.getD_eq_getElem]

/-! ### Padding (R218) -/

theorem length_padByte (k : Nat) : (padByte k).length = 8 := by
  unfold padByte
  split <;> rfl

/-- From a byte boundary on, pad bytes fill the capacity. -/
theorem addPadBytes_eq (fuel k n : Nat) (s : List Bool) (hfuel : n ≤ fuel) (hlength : s.length + 8 * n = 152) :
    addPadBytes fuel k s = s ++ (List.range n).flatMap fun i => padByte (k + i) := by
  induction fuel generalizing k n s with
  | zero =>
    obtain rfl : n = 0 := by omega
    simp [addPadBytes]
  | succ fuel ih =>
    cases n with
    | zero => simp [addPadBytes, show s.length = 152 by omega]
    | succ n =>
      have hnext : (s ++ padByte k).length + 8 * n = 152 := by
        rw [List.length_append, length_padByte]
        omega
      rw [addPadBytes, if_pos (by omega), ih (k + 1) n _ (by omega) hnext]
      simp [List.range_succ_eq_map, List.flatMap_map, Nat.add_assoc, Nat.add_comm 1]

/-- Byte alignment and pad bytes (R218, steps 2 and 3). -/
theorem alignAndFill_eq {t : List Bool} (h : t.length ≤ 152) : ∃ z n : Nat,
    addPadBytes 19 0 (addZeros ((8 - t.length % 8) % 8) t) =
      t ++ List.replicate z false ++ (List.range n).flatMap padByte ∧ t.length + z + 8 * n = 152 ∧ z ≤ 7 := by
  obtain ⟨z, hz⟩ : ∃ z, z = min ((8 - t.length % 8) % 8) (152 - t.length) := ⟨_, rfl⟩
  have hlength : (t ++ List.replicate z false).length + 8 * ((152 - t.length - z) / 8) = 152 := by
    rw [List.length_append, List.length_replicate]
    omega
  refine ⟨z, (152 - t.length - z) / 8, ?_, by omega, by omega⟩
  rw [addZeros, ← hz, addPadBytes_eq 19 0 _ _ (by omega) hlength]
  simp only [Nat.zero_add]

/-- The padded stream: the data, zeros to a byte boundary, and pad bytes (R218). -/
theorem padBits_eq {s : List Bool} (h : s.length ≤ 152) : ∃ z n : Nat,
    padBits s = s ++ List.replicate z false ++ (List.range n).flatMap padByte ∧
      s.length + z + 8 * n = 152 ∧ min 4 (152 - s.length) ≤ z ∧ z ≤ 11 := by
  have hterminated : (addZeros 4 s).length = s.length + min 4 (152 - s.length) := by simp [addZeros]
  obtain ⟨z, n, hpad, hlength, hle⟩ := alignAndFill_eq (t := addZeros 4 s) (by omega)
  refine ⟨min 4 (152 - s.length) + z, n, ?_, by omega, by omega, by omega⟩
  rw [padBits, hpad, addZeros, List.append_assoc s, List.replicate_append_replicate]

theorem length_padBits {s : List Bool} (h : s.length ≤ 152) : (padBits s).length = 152 := by
  obtain ⟨z, n, hpad, hlength, -⟩ := padBits_eq h
  have hbytes : ((List.range n).flatMap padByte).length = n * 8 := by
    simp [List.length_flatMap, length_padByte]
  rw [hpad, List.length_append, List.length_append, List.length_replicate, hbytes]
  omega

theorem exists_padBits_eq_append {s : List Bool} (h : s.length ≤ 152) : ∃ post, padBits s = s ++ post := by
  obtain ⟨z, n, hpad, -⟩ := padBits_eq h
  exact ⟨_, hpad.trans (List.append_assoc _ _ _)⟩

/-- Settles O24: terminator, alignment and pad bytes in turn (`padBits_eq`). -/
theorem paddingShape : Obligations.PaddingShape := by
  intro s h
  obtain ⟨z, n, hpad, hlength, hlow, hhigh⟩ := padBits_eq h
  exact ⟨length_padBits h, z, n, hpad, by omega, hlow, hhigh⟩

end Sys2Proof.Machine
end

section
/-! COMPOSE (R210 to R219): character values, the packed groups of a stream, the first invalid character, and the
obligations about them. -/

namespace Sys2Proof.Machine

open Sys2Proof Sys2Proof.Claims

/-! ### Characters (R211, R212) -/

theorem charIndex_eq_charValue (c : Byte) : charIndex c = charValue c := by
  revert c
  decide +kernel

theorem digitValue_eq_charValue {c : Byte} (h : 0x30 ≤ c.toNat ∧ c.toNat ≤ 0x39) : digitValue c = charValue c :=
  (if_pos h).symm

theorem charValue_lt {c : Byte} (h : c ∈ alnumSet) : charValue c < 45 := by
  rw [← charIndex_eq_charValue]
  exact List.idxOf_lt_length_iff.2 h

theorem charValue_injective {c c' : Byte} (h : c ∈ alnumSet) (heq : charValue c = charValue c') : c = c' := by
  rw [← charIndex_eq_charValue, ← charIndex_eq_charValue] at heq
  exact (List.idxOf_inj h).1 heq

theorem all_isDigit_iff (t : List Byte) : t.all isDigit = true ↔ DigitText t := by
  simp [isDigit, DigitText]

theorem isAlnumText_eq_false_iff (t : List Byte) : isAlnumText t = false ↔ DigitText t := by
  rw [← all_isDigit_iff, isAlnumText, Bool.not_eq_false']

theorem valueAt_of_lt {t : List Byte} {k : Nat} (h : k < t.length) : valueAt t k = charValue t[k] := by
  rw [valueAt, List.getD_eq_getElem _ _ h]

theorem valueAt_lt_of_valid {t : List Byte} (h : ValidText t) {k : Nat} (hk : k < t.length) : valueAt t k < 45 := by
  rw [valueAt_of_lt hk]
  exact charValue_lt (h _ (List.getElem_mem hk))

theorem digitValue_of_digitText {t : List Byte} (h : DigitText t) {k : Nat} (hk : k < t.length) :
    digitValue t[k] = valueAt t k ∧ valueAt t k ≤ 9 := by
  have hdigit := h t[k] (List.getElem_mem hk)
  rw [valueAt_of_lt hk, ← digitValue_eq_charValue hdigit]
  exact ⟨rfl, by unfold digitValue; omega⟩

theorem charIndex_eq_valueAt {t : List Byte} {k : Nat} (hk : k < t.length) : charIndex t[k] = valueAt t k := by
  rw [valueAt_of_lt hk, charIndex_eq_charValue]

/-! ### The composed length (R218) -/

theorem closedLength_of_digitText {t : List Byte} (h : DigitText t) : closedLength t =
    14 + 10 * (t.length / 3) + (if t.length % 3 = 1 then 4 else if t.length % 3 = 2 then 7 else 0) :=
  if_pos ((all_isDigit_iff t).2 h)

theorem closedLength_of_not_digitText {t : List Byte} (h : ¬ DigitText t) :
    closedLength t = 13 + 11 * (t.length / 2) + 6 * (t.length % 2) :=
  if_neg (mt (all_isDigit_iff t).1 h)

theorem closedLength_le_iff_of_digitText {t : List Byte} (h : DigitText t) : closedLength t ≤ 152 ↔ t.length ≤ 41 := by
  rw [closedLength_of_digitText h]
  split
  · omega
  · split <;> omega

theorem closedLength_le_iff_of_not_digitText {t : List Byte} (h : ¬ DigitText t) :
    closedLength t ≤ 152 ↔ t.length ≤ 25 := by
  rw [closedLength_of_not_digitText h]
  omega

/-- Settles O23: the closed form (`length_compose`) is at most 152 up to 41 digits or 25 characters. -/
theorem composedLength : Obligations.ComposedLength :=
  ⟨length_compose, fun _ => closedLength_le_iff_of_digitText, fun _ => closedLength_le_iff_of_not_digitText⟩

/-! ### Packed groups (R216, R217) -/

theorem packNumeric_append {l : List Byte} (h : 3 ∣ l.length) (r : List Byte) :
    packNumeric (l ++ r) = packNumeric l ++ packNumeric r := by
  induction l using packNumeric.induct with
  | case1 a b c l ih =>
    have hl : 3 ∣ l.length := (Nat.dvd_add_left (Nat.dvd_refl 3)).1 h
    simp [packNumeric, ih hl]
  | case2 a b => simp at h
  | case3 a => simp at h
  | case4 => rfl

theorem packAlnum_append {l : List Byte} (h : 2 ∣ l.length) (r : List Byte) :
    packAlnum (l ++ r) = packAlnum l ++ packAlnum r := by
  induction l using packAlnum.induct with
  | case1 a b l ih =>
    have hl : 2 ∣ l.length := (Nat.dvd_add_left (Nat.dvd_refl 2)).1 h
    simp [packAlnum, ih hl]
  | case2 a => simp at h
  | case3 => rfl

section
variable {t : List Byte} {g : Nat}

theorem packNumeric_split (h : 3 * g ≤ t.length) : ∃ l : List Bool, l.length = 10 * g ∧
    packNumeric t = l ++ packNumeric (t.drop (3 * g)) := by
  have hlength : (t.take (3 * g)).length = 3 * g := by simpa using h
  refine ⟨packNumeric (t.take (3 * g)), ?_, ?_⟩
  · simp [length_packNumeric, hlength]
  · rw [← packNumeric_append ⟨g, hlength⟩, List.take_append_drop]

theorem packAlnum_split (h : 2 * g ≤ t.length) : ∃ l : List Bool, l.length = 11 * g ∧
    packAlnum t = l ++ packAlnum (t.drop (2 * g)) := by
  have hlength : (t.take (2 * g)).length = 2 * g := by simpa using h
  refine ⟨packAlnum (t.take (2 * g)), ?_, ?_⟩
  · simp [length_packAlnum, hlength]
  · rw [← packAlnum_append ⟨g, hlength⟩, List.take_append_drop]

/-- The number packed after `l`, in a stream with the header `pre` before it. -/
theorem numberAt_of_group {bits pre l post : List Bool} {w v : Nat} (hbits : bits = pre ++ (l ++ (bin w v ++ post)))
    (hv : v < 2 ^ w) : numberAt bits (pre.length + l.length) w = v := by
  rw [hbits, ← List.append_assoc, ← List.length_append, numberAt_append_bin, Nat.mod_eq_of_lt hv]

section
variable {bits pre post : List Bool} (hdigits : DigitText t) (hbits : bits = pre ++ (packNumeric t ++ post))
include hbits

theorem numberAt_numericGroup {rest : List Bool} {w v : Nat} (hg : 3 * g ≤ t.length)
    (hgroup : packNumeric (t.drop (3 * g)) = bin w v ++ rest) (hv : v < 2 ^ w) :
    numberAt bits (pre.length + 10 * g) w = v := by
  obtain ⟨l, hl, hsplit⟩ := packNumeric_split hg
  rw [hsplit, hgroup, List.append_assoc, List.append_assoc] at hbits
  rw [← hl]
  exact numberAt_of_group hbits hv

include hdigits

theorem numberAt_threeDigits (h : 3 * g + 2 < t.length) : numberAt bits (pre.length + 10 * g) 10 =
    100 * valueAt t (3 * g) + 10 * valueAt t (3 * g + 1) + valueAt t (3 * g + 2) := by
  obtain ⟨h0, hle0⟩ := digitValue_of_digitText hdigits (k := 3 * g) (by omega)
  obtain ⟨h1, hle1⟩ := digitValue_of_digitText hdigits (k := 3 * g + 1) (by omega)
  obtain ⟨h2, hle2⟩ := digitValue_of_digitText hdigits h
  refine numberAt_numericGroup hbits (rest := packNumeric (t.drop (3 * g + 3))) (by omega) ?_ (by omega)
  rw [List.drop_eq_getElem_cons (by omega), List.drop_eq_getElem_cons (by omega), List.drop_eq_getElem_cons h,
    packNumeric, h0, h1, h2]

theorem numberAt_twoDigits (h : t.length = 3 * g + 2) : numberAt bits (pre.length + 10 * g) 7 =
    10 * valueAt t (3 * g) + valueAt t (3 * g + 1) := by
  obtain ⟨h0, hle0⟩ := digitValue_of_digitText hdigits (k := 3 * g) (by omega)
  obtain ⟨h1, hle1⟩ := digitValue_of_digitText hdigits (k := 3 * g + 1) (by omega)
  refine numberAt_numericGroup hbits (rest := []) (by omega) ?_ (by omega)
  rw [List.drop_eq_getElem_cons (by omega), List.drop_eq_getElem_cons (by omega), List.drop_eq_nil_of_le (by omega),
    packNumeric, h0, h1, List.append_nil]

theorem numberAt_oneDigit (h : t.length = 3 * g + 1) :
    numberAt bits (pre.length + 10 * g) 4 = valueAt t (3 * g) := by
  obtain ⟨h0, hle0⟩ := digitValue_of_digitText hdigits (k := 3 * g) (by omega)
  refine numberAt_numericGroup hbits (rest := []) (by omega) ?_ (by omega)
  rw [List.drop_eq_getElem_cons (by omega), List.drop_eq_nil_of_le (by omega), packNumeric, h0, List.append_nil]

end

section
variable {bits pre post : List Bool} (hvalid : ValidText t) (hbits : bits = pre ++ (packAlnum t ++ post))
include hbits

theorem numberAt_alnumGroup {rest : List Bool} {w v : Nat} (hg : 2 * g ≤ t.length)
    (hgroup : packAlnum (t.drop (2 * g)) = bin w v ++ rest) (hv : v < 2 ^ w) :
    numberAt bits (pre.length + 11 * g) w = v := by
  obtain ⟨l, hl, hsplit⟩ := packAlnum_split hg
  rw [hsplit, hgroup, List.append_assoc, List.append_assoc] at hbits
  rw [← hl]
  exact numberAt_of_group hbits hv

include hvalid

theorem numberAt_pair (h : 2 * g + 1 < t.length) : numberAt bits (pre.length + 11 * g) 11 =
    45 * valueAt t (2 * g) + valueAt t (2 * g + 1) := by
  have hlt0 := valueAt_lt_of_valid hvalid (k := 2 * g) (by omega)
  have hlt1 := valueAt_lt_of_valid hvalid h
  refine numberAt_alnumGroup hbits (rest := packAlnum (t.drop (2 * g + 2))) (by omega) ?_ (by omega)
  rw [List.drop_eq_getElem_cons (by omega), List.drop_eq_getElem_cons h, packAlnum, charIndex_eq_valueAt,
    charIndex_eq_valueAt]

theorem numberAt_lastCharacter (h : t.length = 2 * g + 1) :
    numberAt bits (pre.length + 11 * g) 6 = valueAt t (2 * g) := by
  have hlt0 := valueAt_lt_of_valid hvalid (k := 2 * g) (by omega)
  refine numberAt_alnumGroup hbits (rest := []) (by omega) ?_ (by omega)
  rw [List.drop_eq_getElem_cons (by omega), List.drop_eq_nil_of_le (by omega), packAlnum, charIndex_eq_valueAt,
    List.append_nil]

end

end

/-! ### The composed stream (R215) -/

section
variable {t : List Byte} {bits post : List Bool}

theorem compose_of_digitText (h : DigitText t) :
    compose t = [false, false, false, true] ++ bin 10 t.length ++ packNumeric t := by
  have hmode : isAlnumText t = false := (isAlnumText_eq_false_iff t).2 h
  simp [compose, hmode]

theorem compose_of_not_digitText (h : ¬ DigitText t) :
    compose t = [false, false, true, false] ++ bin 9 t.length ++ packAlnum t := by
  have hmode : isAlnumText t = true := Bool.not_eq_false _ ▸ mt (isAlnumText_eq_false_iff t).1 h
  simp [compose, hmode]

theorem numericStream_of_compose (h : DigitText t) (hlength : closedLength t ≤ 152) (hbits : bits = compose t ++ post) :
    NumericStream t bits := by
  have hcount : t.length ≤ 41 := (closedLength_le_iff_of_digitText h).1 hlength
  rw [compose_of_digitText h] at hbits
  have hpacked : bits = ([false, false, false, true] ++ bin 10 t.length) ++ (packNumeric t ++ post) := by
    rw [hbits, List.append_assoc]
  have hheader : bits = [] ++ ([false, false, false, true] ++ (bin 10 t.length ++ (packNumeric t ++ post))) := by
    rw [hpacked, List.nil_append, List.append_assoc]
  exact ⟨by rw [hheader]; rfl, numberAt_of_group hheader (by omega), fun _ => numberAt_threeDigits h hpacked,
    fun _ => numberAt_twoDigits h hpacked, fun _ => numberAt_oneDigit h hpacked⟩

theorem alnumStream_of_compose (h : ¬ DigitText t) (hvalid : ValidText t) (hlength : closedLength t ≤ 152)
    (hbits : bits = compose t ++ post) : AlnumStream t bits := by
  have hcount : t.length ≤ 25 := (closedLength_le_iff_of_not_digitText h).1 hlength
  rw [compose_of_not_digitText h] at hbits
  have hpacked : bits = ([false, false, true, false] ++ bin 9 t.length) ++ (packAlnum t ++ post) := by
    rw [hbits, List.append_assoc]
  have hheader : bits = [] ++ ([false, false, true, false] ++ (bin 9 t.length ++ (packAlnum t ++ post))) := by
    rw [hpacked, List.nil_append, List.append_assoc]
  exact ⟨by rw [hheader]; rfl, numberAt_of_group hheader (by omega), fun _ => numberAt_pair hvalid hpacked,
    fun _ => numberAt_lastCharacter hvalid hpacked⟩

end

/-! ### The command (R219) -/

/-- Settles O21: the first 152 bits of the codewords are the padded stream (`take_codewordBits_withData`), which starts
with the composed one. -/
theorem composeWritesDataCodewords : Obligations.ComposeWritesDataCodewords := by
  intro s haccepted
  have hexec := exec_compose_of_ok (performCompose_of_accepted haccepted)
  obtain ⟨-, hvalid, hlength⟩ := haccepted
  have hcompose : (compose s.text).length ≤ 152 := (length_compose s.text).trans_le hlength
  have htake := take_codewordBits_withData (length_padBits hcompose) s.cwBuf
  obtain ⟨post, hpost⟩ := exists_padBits_eq_append hcompose
  generalize hcw : withData (padBits (compose s.text)) s.cwBuf = cw at htake
  rw [codewordBits_eq_bitList] at htake
  have hbits : bitList cw = compose s.text ++ (post ++ (bitList cw).drop 152) := by
    rw [← List.append_assoc, ← hpost, ← htake, List.take_append_drop]
  refine ⟨cw, isAlnumText s.text, ?exec, fun k hk => ?kept,
    isAlnumText_eq_false_iff s.text, fun h => numericStream_of_compose h hlength hbits,
    fun h => alnumStream_of_compose h hvalid hlength hbits, codewordBits_eq_bitList _, htake⟩
  case exec =>
    rw [hexec, setComposed, length_compose, hcw]
    rfl
  case kept => simp [← hcw, withData, Nat.not_lt.2 hk]

/-! ### Errors (R213, R214, R343) -/

theorem firstInvalid_eq_some {t : List Byte} {k : Nat} (j : Nat) (hk : k < t.length)
    (hbefore : ∀ i (hi : i < k), t[i] ∈ alnumSet) (hat : t[k] ∉ alnumSet) :
    firstInvalid j t = some (j + k, t[k]) := by
  induction t generalizing j k with
  | nil => exact absurd hk (Nat.not_lt_zero k)
  | cons c t ih =>
    cases k with
    | zero => exact if_neg (mt (validChar_iff c).1 hat)
    | succ k =>
      have hc : validChar c = true := (validChar_iff c).2 (hbefore 0 (Nat.succ_pos k))
      rw [firstInvalid, if_pos hc, ih (j + 1) (Nat.lt_of_succ_lt_succ hk)
        (fun i hi => hbefore (i + 1) (Nat.succ_lt_succ hi)) hat, Nat.add_assoc, Nat.add_comm 1]
      rfl

/-- The information word of INVALID_CHARACTER as a sum: its two fields do not overlap (R214). -/
theorem invalidInfo_eq (c : Byte) {k : Nat} (hk : k < 65536) :
    invalidInfo k c = BitVec.ofNat 32 (c.toNat * 65536 + k) := by
  have hc := c.isLt
  have hshift : (c.setWidth 32 <<< 16).toNat = c.toNat <<< 16 := by
    rw [BitVec.toNat_shiftLeft, BitVec.toNat_setWidth_of_le (by decide), Nat.shiftLeft_eq, Nat.mod_eq_of_lt (by omega)]
  apply BitVec.eq_of_toNat_eq
  rw [invalidInfo, BitVec.toNat_or, hshift, BitVec.toNat_ofNat, BitVec.toNat_ofNat,
    Nat.mod_eq_of_lt (show k < 2 ^ 32 by omega), Nat.mod_eq_of_lt (by omega),
    ← Nat.shiftLeft_add_eq_or_of_lt (show k < 2 ^ 16 from hk), Nat.shiftLeft_eq]

/-- Settles O22: the three checks of `performCompose` in turn. -/
theorem composeErrorPriority : Obligations.ComposeErrorPriority := by
  intro s
  refine ⟨fun hlong => ?long, fun k hk hcount hbefore hat => ?invalid, fun hcount hvalid hlength => ?capacity⟩
  case long => exact exec_compose_of_error (if_pos hlong)
  case invalid =>
    have hfirst := firstInvalid_eq_some 0 hk hbefore hat
    have herror : performCompose s = .error ⟨.invalidCharacter, invalidInfo k s.text[k]⟩ := by
      rw [performCompose, if_neg (Nat.not_lt.2 hcount), hfirst, Nat.zero_add]
    have hk : k < 256 := by
      simp only [State.text, List.length_take] at hk
      omega
    rw [exec_compose_of_error herror, invalidInfo_eq _ (by omega)]
    rfl
  case capacity =>
    have herror : performCompose s = .error ⟨.capacityExceeded, BitVec.ofNat 32 (closedLength s.text)⟩ := by
      rw [performCompose, if_neg (Nat.not_lt.2 hcount), (firstInvalid_eq_none_iff 0 _).2 hvalid, ← length_compose]
      exact if_pos (length_compose s.text ▸ hlength)
    exact exec_compose_of_error herror

/-! ### The text read back (R211 to R218) -/

section
variable {t t' : List Byte} {bits : List Bool}

theorem eq_of_valueAt (hvalid : ValidText t) (hlength : t.length = t'.length)
    (h : ∀ k < t.length, valueAt t k = valueAt t' k) : t = t' := by
  refine List.ext_getElem hlength fun k hk hk' => charValue_injective (hvalid _ (List.getElem_mem hk)) ?_
  rw [← valueAt_of_lt hk, ← valueAt_of_lt hk', h k hk]

theorem eq_of_numericStream (hdigits : DigitText t) (hdigits' : DigitText t') (hvalid : ValidText t)
    (h : NumericStream t bits) (h' : NumericStream t' bits) : t = t' := by
  obtain ⟨-, hcount, hthree, htwo, hone⟩ := h
  obtain ⟨-, hcount', hthree', htwo', hone'⟩ := h'
  have hlength : t.length = t'.length := hcount.symm.trans hcount'
  have hle (k : Nat) (hk : k < t.length) : valueAt t k ≤ 9 ∧ valueAt t' k ≤ 9 :=
    ⟨(digitValue_of_digitText hdigits hk).2, (digitValue_of_digitText hdigits' (hlength ▸ hk)).2⟩
  refine eq_of_valueAt hvalid hlength fun k hk => ?_
  obtain ⟨g, r, hr, rfl⟩ : ∃ g r, r < 3 ∧ k = 3 * g + r := ⟨k / 3, k % 3, Nat.mod_lt k (by decide), by omega⟩
  have hfirst := hle (3 * g) (by omega)
  by_cases hgroup : 3 * g + 2 < t.length
  · have hsum := (hthree g hgroup).symm.trans (hthree' g (hlength ▸ hgroup))
    have hsecond := hle (3 * g + 1) (by omega)
    have hthird := hle (3 * g + 2) hgroup
    interval_cases r
    · show valueAt t (3 * g) = valueAt t' (3 * g)
      omega
    · omega
    · omega
  by_cases hrest : t.length = 3 * g + 2
  · have hsum := (htwo g hrest).symm.trans (htwo' g (hlength ▸ hrest))
    have hsecond := hle (3 * g + 1) (by omega)
    obtain rfl | rfl : r = 0 ∨ r = 1 := by omega
    · show valueAt t (3 * g) = valueAt t' (3 * g)
      omega
    · omega
  · have hlast : t.length = 3 * g + 1 := by omega
    obtain rfl : r = 0 := by omega
    exact (hone g hlast).symm.trans (hone' g (hlength ▸ hlast))

theorem eq_of_alnumStream (hvalid : ValidText t) (hvalid' : ValidText t')
    (h : AlnumStream t bits) (h' : AlnumStream t' bits) : t = t' := by
  obtain ⟨-, hcount, htwo, hone⟩ := h
  obtain ⟨-, hcount', htwo', hone'⟩ := h'
  have hlength : t.length = t'.length := hcount.symm.trans hcount'
  refine eq_of_valueAt hvalid hlength fun k hk => ?_
  obtain ⟨g, r, hr, rfl⟩ : ∃ g r, r < 2 ∧ k = 2 * g + r := ⟨k / 2, k % 2, Nat.mod_lt k (by decide), by omega⟩
  by_cases hgroup : 2 * g + 1 < t.length
  · have hsum := (htwo g hgroup).symm.trans (htwo' g (hlength ▸ hgroup))
    have hlt := valueAt_lt_of_valid hvalid hgroup
    have hlt' := valueAt_lt_of_valid hvalid' (hlength ▸ hgroup)
    obtain rfl | rfl : r = 0 ∨ r = 1 := by omega
    · show valueAt t (2 * g) = valueAt t' (2 * g)
      omega
    · omega
  · have hlast : t.length = 2 * g + 1 := by omega
    obtain rfl : r = 0 := by omega
    exact (hone g hlast).symm.trans (hone' g (hlength ▸ hlast))

end

/-- Settles O25: both texts are read back from the same stream, whose first four bits tell the mode. -/
theorem composeIsInjective : Obligations.ComposeIsInjective := by
  intro t t' hvalid hvalid' hlength hlength' heq
  obtain ⟨post, hpost⟩ := exists_padBits_eq_append ((length_compose t).trans_le hlength)
  obtain ⟨post', hpost'⟩ := exists_padBits_eq_append ((length_compose t').trans_le hlength')
  rw [← heq] at hpost'
  by_cases hdigits : DigitText t <;> by_cases hdigits' : DigitText t'
  · exact eq_of_numericStream hdigits hdigits' hvalid (numericStream_of_compose hdigits hlength hpost)
      (numericStream_of_compose hdigits' hlength' hpost')
  · have hmode := (numericStream_of_compose hdigits hlength hpost).1
    have hmode' := (alnumStream_of_compose hdigits' hvalid' hlength' hpost').1
    cases hmode.symm.trans hmode'
  · have hmode := (alnumStream_of_compose hdigits hvalid hlength hpost).1
    have hmode' := (numericStream_of_compose hdigits' hlength' hpost').1
    cases hmode.symm.trans hmode'
  · exact eq_of_alnumStream hvalid hvalid' (alnumStream_of_compose hdigits hvalid hlength hpost)
      (alnumStream_of_compose hdigits' hvalid' hlength' hpost')

end Sys2Proof.Machine
end

section
/-! The reserved cells (R247, R248, R253), the render of R252's pseudocode cell by cell, rule 1 by maximal runs (R281),
and the obligations about them. -/

namespace Sys2Proof.Machine

open Sys2Proof Sys2Proof.Claims

/-! ### Reserved cells (R248, R253) -/

theorem countP_reserved (m : BitVec 3) :
    ((List.range 441).countP fun q => (structAt m (q / 21) (q % 21)).isSome) = 233 := by
  have hzero : ((List.range 441).countP fun q => (structAt 0#3 (q / 21) (q % 21)).isSome) = 233 := by decide +kernel
  simpa only [isSome_structAt_congr m 0#3] using hzero

theorem formatBit_eq_none {r c : Nat} (h : ∀ p ∈ formatCells, p.1 ≠ (r, c) ∧ p.2 ≠ (r, c)) :
    formatBit r c = none := by
  refine List.findIdx?_eq_none_iff.2 fun p hp => ?_
  obtain ⟨h1, h2⟩ := h p hp
  simp [h1, h2]

/-- Settles O26: the mask enters STRUCT only by the colour of a format cell. -/
theorem reservedSetIsFixed : Obligations.ReservedSetIsFixed := by
  refine ⟨countP_reserved, isSome_structAt_congr, fun m m' r c h => ?_, by decide +kernel⟩
  simp only [structAt, formatBit_eq_none h, Option.map_none]

/-! ### R252's pseudocode -/

section
variable {α β : Type} {n : Nat} {cell : β → Nat} {value : β → α} {l : List β} {q : Nat}

/-- Placing values one after another keeps what is at the place of none of them. -/
theorem getElem_foldl_setIfInBounds_of_ne (v : Vector α n) (hq : q < n) (h : ∀ x ∈ l, cell x ≠ q) :
    (l.foldl (fun v x => v.setIfInBounds (cell x) (value x)) v)[q] = v[q] := by
  induction l generalizing v with
  | nil => rfl
  | cons y l ih =>
    rw [List.foldl_cons, ih _ fun x hx => h x (List.mem_cons_of_mem y hx),
      Vector.getElem_setIfInBounds_ne _ (h y List.mem_cons_self)]

/-- Placing values at distinct places leaves each at its own. -/
theorem getElem_foldl_setIfInBounds_of_mem (v : Vector α n) (hq : q < n) {x : β} (hx : x ∈ l)
    (hnodup : (l.map cell).Nodup) (hcell : cell x = q) :
    (l.foldl (fun v x => v.setIfInBounds (cell x) (value x)) v)[q] = value x := by
  induction l generalizing v with
  | nil => cases hx
  | cons y l ih =>
    obtain ⟨hnotin, hrest⟩ := List.nodup_cons.1 hnodup
    rw [List.foldl_cons]
    obtain rfl | hx := List.mem_cons.1 hx
    · subst hcell
      rw [getElem_foldl_setIfInBounds_of_ne _ hq fun z hz h => hnotin (h ▸ List.mem_map_of_mem hz),
        Vector.getElem_setIfInBounds_self]
    · exact ih _ hx hrest

end

/-- The cells of ORDER are distinct: the placement table tells them apart. -/
theorem nodup_order_linear : (order.map linear).Nodup := by
  have hentries : ((order.map linear).map (placement.getD · 0)).Nodup := by
    rw [List.map_map]
    exact order_placement ▸ List.nodup_range
  exact hentries.of_map _

theorem lt_of_mem_order : ∀ p ∈ order, p.1 < 21 ∧ p.2 < 21 := by decide +kernel

theorem coords_of_mem_order {p : Coord} (h : p ∈ order) : linear p / 21 = p.1 ∧ linear p % 21 = p.2 := by
  have hcolumn := (lt_of_mem_order p h).2
  unfold linear
  omega

/-- The free cells, by linear index. -/
def freeCells : List Nat := (List.range 441).filter fun q => !(structAt 0#3 (q / 21) (q % 21)).isSome

theorem length_freeCells : freeCells.length = 208 := by
  have hsplit := List.length_eq_countP_add_countP (fun q => (structAt 0#3 (q / 21) (q % 21)).isSome)
    (l := List.range 441)
  simp only [countP_reserved, List.length_range, Bool.not_eq_true, Bool.decide_eq_false] at hsplit
  rw [freeCells, ← List.countP_eq_length_filter]
  omega

/-- ORDER visits every free cell: its 208 cells are distinct free ones, and there are no more. -/
theorem perm_freeCells : (order.map linear).Perm freeCells := by
  refine (nodup_order_linear.subperm fun q hq => ?_).perm_of_length_le (by simp [length_freeCells, length_order])
  obtain ⟨p, hp, rfl⟩ := List.mem_map.1 hq
  obtain ⟨hrow, hcolumn⟩ := coords_of_mem_order hp
  obtain ⟨hrowLt, hcolumnLt⟩ := lt_of_mem_order p hp
  refine List.mem_filter.2 ⟨List.mem_range.2 (by unfold linear; omega), ?_⟩
  rw [hrow, hcolumn, structAt_of_mem_order 0#3 hp]
  rfl

/-- Each free cell is in ORDER at the index its entry of the placement table gives. -/
theorem order_getElem?_placement {m : BitVec 3} {q : Nat} (hq : q < 441) (hfree : structAt m (q / 21) (q % 21) = none) :
    order[placement.getD q 0]? = some (q / 21, q % 21) := by
  have hmem : q ∈ freeCells := by
    refine List.mem_filter.2 ⟨List.mem_range.2 hq, ?_⟩
    rw [isSome_structAt_congr 0#3 m, hfree]
    rfl
  obtain ⟨p, hp, rfl⟩ := List.mem_map.1 (perm_freeCells.mem_iff.2 hmem)
  obtain ⟨hrow, hcolumn⟩ := coords_of_mem_order hp
  obtain ⟨k, hk⟩ := List.getElem?_of_mem hp
  rw [placement_of_order hk, hk, hrow, hcolumn]

section
variable (cw : Vector Byte 26) (m : BitVec 3)

/-- The pairs R252 places: each cell of ORDER with its bit. -/
theorem map_linear_zip : (order.zip (codewordBits cw)).map (fun pb => linear pb.1) = order.map linear := by
  have hfst : (order.zip (codewordBits cw)).map Prod.fst = order :=
    List.map_fst_zip (by rw [length_order, length_codewordBits])
  calc (order.zip (codewordBits cw)).map (fun pb => linear pb.1)
      = ((order.zip (codewordBits cw)).map Prod.fst).map linear := by rw [List.map_map]; rfl
    _ = order.map linear := by rw [hfst]

theorem mem_zip_of_order {k : Nat} {p : Coord} (h : order[k]? = some p) :
    (p, streamBit cw k) ∈ order.zip (codewordBits cw) := by
  have hk : k < 208 := length_order ▸ (List.getElem?_eq_some_iff.1 h).1
  have hbit : (codewordBits cw)[k]? = some (streamBit cw k) := by
    rw [← getD_codewordBits, List.getD_eq_getElem _ _ (by rwa [length_codewordBits]), List.getElem?_eq_getElem]
  exact List.mem_of_getElem? (List.getElem?_zip_eq_some.2 ⟨h, hbit⟩)

theorem getElem_renderInOrder (q : Nat) (hq : q < 441) :
    (renderInOrder cw m)[q] = moduleAt cw m (q / 21) (q % 21) (placement.getD q 0) := by
  simp only [renderInOrder]
  cases h : structAt m (q / 21) (q % 21) with
  | some black =>
    rw [getElem_foldl_setIfInBounds_of_ne _ hq ?notPlaced, getElem_fill, h, moduleAt_of_reserved h]
    · rfl
    case notPlaced =>
      intro pb hpb hcell
      have hmem : pb.1 ∈ order := (List.of_mem_zip hpb).1
      obtain ⟨hrow, hcolumn⟩ := coords_of_mem_order hmem
      rw [← hcell, hrow, hcolumn, structAt_of_mem_order m hmem] at h
      cases h
  | none =>
    have horder := order_getElem?_placement hq h
    rw [getElem_foldl_setIfInBounds_of_mem _ hq (mem_zip_of_order cw horder)
      (map_linear_zip cw ▸ nodup_order_linear) (Nat.div_add_mod q 21), moduleAt_of_free h]

end

/-- Settles O28: both matrices have `moduleAt` in each cell. -/
theorem renderEqualsPseudocode : Obligations.RenderEqualsPseudocode := by
  intro cw m
  refine Vector.ext fun q hq => ?_
  rw [getElem_render, getElem_renderInOrder]

/-! ### Rule 1 by maximal runs (R281) -/

/-- Inside a run the scan counts on. -/
theorem runCostFrom_replicate (b : Bool) (n k : Nat) (rest : List Bool) :
    runCostFrom b n (List.replicate k b ++ rest) = runCostFrom b (n + k) rest := by
  induction k generalizing n with
  | zero => rfl
  | succ k ih => rw [List.replicate_succ, List.cons_append, runCostFrom, if_pos rfl, ih, Nat.succ_add_eq_add_succ]

/-- A run ends where the colour changes, and is charged there. -/
theorem runCostFrom_of_head?_ne {b : Bool} {rest : List Bool} (n : Nat) (h : rest.head? ≠ some b) :
    runCostFrom b n rest = runCost n + lineRunCost rest := by
  cases rest with
  | nil => rfl
  | cons c rest =>
    have hne : c ≠ b := fun heq => h (congrArg some heq)
    rw [runCostFrom, if_neg hne, lineRunCost]

/-- Settles O29: the scan counts on inside a run (`runCostFrom_replicate`) and charges it at its end
(`runCostFrom_of_head?_ne`). -/
theorem runRuleByMaximalRuns : Obligations.RunRuleByMaximalRuns := by
  refine ⟨rfl, fun b n rest hpos hend => ?_⟩
  obtain ⟨k, rfl⟩ := Nat.exists_eq_succ_of_ne_zero hpos.ne'
  rw [List.replicate_succ, List.cons_append, lineRunCost, runCostFrom_replicate, runCostFrom_of_head?_ne _ hend,
    Nat.add_comm 1 k]
  rfl

/-- Settles O30: field by field, the scan is its index form. -/
theorem scoreFollowsRules : Obligations.ScoreFollowsRules := fun k =>
  ⟨scoreGrid_run k, scoreGrid_block k, scoreGrid_finder k, scoreGrid_black k, scoreGrid_balance k⟩

end Sys2Proof.Machine
end

section
/-! ENCODE as a whole (R314, R315): its outcome as a function of the text, the symbol it leaves in BEST, and the
obligations about them. -/

namespace Sys2Proof.Machine

open Sys2Proof Sys2Proof.Claims

/-! ### The codewords ENCODE leaves -/

/-- RS_ENCODE reads CW_BUF[0..18] alone (R184). -/
theorem withEc_congr {cw cw' : Vector Byte 26} (h : dataCodewords cw = dataCodewords cw') : withEc cw = withEc cw' := by
  apply Vector.toList_inj.1
  rw [toList_withEc, toList_withEc, h]

theorem dataCodewords_withEc (cw : Vector Byte 26) : dataCodewords (withEc cw) = dataCodewords cw := by
  rw [dataCodewords, toList_withEc, List.take_left' (length_dataCodewords cw)]

theorem dataCodewords_withData (bits : List Bool) (cw : Vector Byte 26) :
    dataCodewords (withData bits cw) = (List.range 19).map (byteOfBits bits) := by
  refine List.ext_getElem (by simp [length_dataCodewords]) fun k hk _ => ?_
  have hk : k < 19 := by rwa [length_dataCodewords] at hk
  simp [dataCodewords, withData, hk]

theorem take_codewordBits (cw : Vector Byte 26) :
    (codewordBits cw).take 152 = (dataCodewords cw).flatMap fun b => bin 8 b.toNat := by
  have hlength : ((dataCodewords cw).flatMap fun b => bin 8 b.toNat).length = 152 := by
    simp [List.length_flatMap, length_dataCodewords]
  rw [codewordBits, ← List.take_append_drop 19 cw.toList, List.flatMap_append]
  exact List.take_left' hlength

/-! ### ENCODE by its text (R315) -/

section
variable {s s' : State}

/-- COMPOSE's error depends on the text alone. -/
theorem performCompose_error_congr {e : CmdError} (hcount : s.textCount = s'.textCount) (htext : s.text = s'.text)
    (h : performCompose s = .error e) : performCompose s' = .error e := by
  unfold performCompose at h ⊢
  rw [hcount, htext] at h
  split at h
  next hlong => rwa [if_pos hlong]
  next hshort =>
    rw [if_neg hshort]
    split at h
    next => exact h
    next =>
      split at h
      next hfull => exact (if_pos hfull).trans h
      next => cases h

theorem accepted_congr (hcount : s.textCount = s'.textCount) (htext : s.text = s'.text) : Accepted s ↔ Accepted s' := by
  rw [Accepted, Accepted, hcount, htext]

/-- SELECT reads CW_BUF alone (R312). -/
theorem performSelect_congr (hcw : s.cwBuf = s'.cwBuf) : ∃ best last totals,
    performSelect s = setSelection best last totals s ∧ performSelect s' = setSelection best last totals s' :=
  ⟨_, _, _, by rw [performSelect_eq_setSelection, hcw], performSelect_eq_setSelection s'⟩

end

/-- The state ENCODE's SELECT starts from, on an accepted text (R314). -/
def composedAndEncoded (s : State) : State := performRsEncode (setComposed s.text s)

theorem exec_encode_of_accepted {s : State} (h : Accepted s) :
    exec .encode s = .next (completeOk (performSelect (composedAndEncoded s))) :=
  exec_encode_of_compose_ok (performCompose_of_accepted h)

theorem composedAndEncoded_cwBuf (s : State) :
    (composedAndEncoded s).cwBuf = withEc (withData (padBits (compose s.text)) s.cwBuf) := rfl

/-- The codewords before SELECT are a function of the text: COMPOSE and RS_ENCODE write all of CW_BUF. -/
theorem composedAndEncoded_cwBuf_congr {s s' : State} (htext : s.text = s'.text) :
    (composedAndEncoded s).cwBuf = (composedAndEncoded s').cwBuf := by
  rw [composedAndEncoded_cwBuf, composedAndEncoded_cwBuf, htext]
  exact withEc_congr (by rw [dataCodewords_withData, dataCodewords_withData])

theorem composedAndEncoded_mode (s : State) : (composedAndEncoded s).modeAlnum = isAlnumText s.text ∧
    (composedAndEncoded s).modeValid = true ∧
    (composedAndEncoded s).dataBits = BitVec.ofNat 8 (compose s.text).length := ⟨rfl, rfl, rfl⟩

/-- Settles O37: COMPOSE's checks and its data codewords are functions of the text, RS_ENCODE overwrites the rest of
CW_BUF, and SELECT reads nothing else. -/
theorem encodeDependsOnTextAlone : Obligations.EncodeDependsOnTextAlone := by
  intro s s' t t' herr herr' hlen htext ht ht'
  have hcount : s.textCount = s'.textCount := congrArg BitVec.toNat hlen
  by_cases haccepted : Accepted s
  · rw [exec_encode_of_accepted haccepted] at ht
    rw [exec_encode_of_accepted ((accepted_congr hcount htext).1 haccepted)] at ht'
    obtain rfl := Host.Outcome.next.inj ht
    obtain rfl := Host.Outcome.next.inj ht'
    have hcw := composedAndEncoded_cwBuf_congr htext
    obtain ⟨halnum, hvalid, hbits⟩ := composedAndEncoded_mode s
    obtain ⟨halnum', hvalid', hbits'⟩ := composedAndEncoded_mode s'
    rw [htext] at halnum hbits
    have hkept : (composedAndEncoded s).err = false ∧ (composedAndEncoded s').err = false := ⟨herr, herr'⟩
    generalize composedAndEncoded s = u at *
    generalize composedAndEncoded s' = u' at *
    obtain ⟨best, last, totals, hselect, hselect'⟩ := performSelect_congr hcw
    rw [hselect, hselect']
    obtain ⟨hu, hu'⟩ := hkept
    exact ⟨hu.trans hu'.symm, rfl, rfl, fun herror => absurd (hu.symm.trans herror) Bool.false_ne_true, fun _ =>
      ⟨hcw, halnum.trans halnum'.symm, hvalid.trans hvalid'.symm, hbits.trans hbits'.symm, rfl, rfl, rfl, rfl, rfl, rfl,
        rfl, rfl, rfl, rfl, rfl, rfl⟩⟩
  · obtain ⟨e, -, herror⟩ := performCompose_of_not_accepted haccepted
    rw [exec_encode_of_compose_error herror] at ht
    rw [exec_encode_of_compose_error (performCompose_error_congr hcount htext herror)] at ht'
    obtain rfl := Host.Outcome.next.inj ht
    obtain rfl := Host.Outcome.next.inj ht'
    exact ⟨rfl, rfl, rfl, fun _ => ⟨rfl, rfl⟩, fun hok => nomatch hok⟩

/-! ### The symbol in BEST (R313, R315) -/

/-- BEST is the colours of the best mask's rendering, and CW_BUF stays (R312). -/
theorem performSelect_best (s : State) : (performSelect s).cwBuf = s.cwBuf ∧
    (performSelect s).best = colourGrid (render s.cwBuf (performSelect s).bestMask) := by
  obtain ⟨best, htrial, -⟩ := bestTrial_eq_trial s.cwBuf
  rw [performSelect_eq htrial, setScore_cwBuf, setScore_best, setScore_bestMask]
  exact ⟨rfl, rfl⟩

theorem colourAt_colourGrid (mat : Vector ModuleState 441) {r c : Nat} (hr : r < 21) (hc : c < 21) :
    colourAt (colourGrid mat) r c = (mat[21 * r + c]).colour := by
  have hcell : 21 * r + c < 441 := by omega
  rw [colourAt, List.getD_eq_getElem _ _ (by simpa using hcell), Vector.getElem_toList, colourGrid, getElem_mapVec]

/-- Un-masking a cell of ORDER in the rendered colours gives back its bit (R251, R252). -/
theorem xor_colourAt_render (cw : Vector Byte 26) (m : BitVec 3) {k r c : Nat} (h : order[k]? = some (r, c)) :
    xor (colourAt (colourGrid (render cw m)) r c) (maskFn m r c) = (codewordBits cw).getD k false := by
  have hmem := List.mem_of_getElem? h
  obtain ⟨hr, hc⟩ := lt_of_mem_order _ hmem
  rw [colourAt_colourGrid _ hr hc, getElem_render_cell cw m r c hr hc, placement_of_order h,
    moduleAt_of_free (structAt_of_mem_order m hmem), colour_dataModule, Bool.xor_assoc, Bool.xor_self, Bool.xor_false,
    getD_codewordBits]

/-- The first 152 bits of ENCODE's codewords are the padded text: RS_ENCODE keeps the data codewords. -/
theorem take_codewordBits_composedAndEncoded {s : State} (h : Accepted s) :
    (codewordBits (composedAndEncoded s).cwBuf).take 152 = padBits (compose s.text) := by
  obtain ⟨-, -, hlength⟩ := h
  have hpad := length_padBits ((length_compose s.text).trans_le hlength)
  rw [composedAndEncoded_cwBuf, take_codewordBits, dataCodewords_withEc, ← take_codewordBits,
    take_codewordBits_withData hpad]

theorem powerSum_composedAndEncoded (s : State) (j : Fin 7) : powerSum (composedAndEncoded s).cwBuf j = 0#8 := by
  rw [powerSum_eq_valueAtPower, ← syndrome_eq_valueAtPower, composedAndEncoded_cwBuf, syndrome_withEc]

/-- A state whose BEST shows a rendering of its codewords can be read back (R313, R315). -/
theorem readsBack_of_rendered {t : State} (hbest : t.best = colourGrid (render t.cwBuf t.bestMask)) :
    (∀ k r c : Nat, order[k]? = some (r, c) →
      xor (colourAt t.best r c) (maskFn t.bestMask r c) = (codewordBits t.cwBuf).getD k false) ∧
    ShowsStructure t.bestMask t.best := by
  rw [hbest]
  exact ⟨fun k r c h => xor_colourAt_render _ _ h, showsStructure_colourGrid (renderedUnder_render _ _)⟩

/-- Settles O38: RS_ENCODE keeps the padded text in the data codewords and makes every syndrome 0; BEST shows the
colours of a rendering of these codewords. -/
theorem encodedSymbolReadsBack : Obligations.EncodedSymbolReadsBack := by
  intro s haccepted
  have htext := take_codewordBits_composedAndEncoded haccepted
  have hsyndromes := powerSum_composedAndEncoded s
  obtain ⟨hcw, hbest⟩ := performSelect_best (composedAndEncoded s)
  rw [← hcw] at htext hsyndromes hbest
  refine ⟨_, exec_encode_of_accepted haccepted, ?_⟩
  rw [completeOk_cwBuf, completeOk_best, completeOk_bestMask]
  exact ⟨htext, hsyndromes, readsBack_of_rendered hbest⟩

end Sys2Proof.Machine
end
